-- ==== Sys2Proof/Word.lean ====
section
/-! DEFINITION. The word types of FIRE: bytes, 32-bit words, 64-bit doublewords, 128-bit vector values and vector register numbers (00_scope.md R13, R14; 10_state.md R24). -/

namespace Sys2Proof

/-- One byte of the local data space (20_memory.md R70). -/
abbrev Byte := BitVec 8

/-- A 32-bit word: a command word, an operand word, a binary32 sample, a status register (30_encoding.md R110). -/
abbrev Word := BitVec 32

/-- A 64-bit doubleword: a binary64 sample, a 64-bit lane (00_scope.md R14). -/
abbrev Dword := BitVec 64

/-- The 128 bits of one vector register (10_state.md R24). -/
abbrev Vec := BitVec 128

/-- The number of a vector register, 0 to 15 (30_encoding.md R124: every 4-bit value names one). -/
abbrev VReg := Fin 16

end Sys2Proof
end

