-- ==== Sys2Proof/Config.lean ====
section
/-! DEFINITION. What an instance of FIRE fixes: the constants of 00_scope.md R10 and R11, the instance parameters of R12, the shape of a sample source (10_state.md R36), and the free value of the NaN draw (40_vec_arith.md R152). -/

namespace Sys2Proof.Config

/-- `IMP_MAXLEN`, the cap on the semantic impulse length (00_scope.md R10). -/
def impMaxLen : Nat := 2044

/-- `IMP_CAP`, the samples IMP holds (00_scope.md R10). -/
def impCap : Nat := 2048

/-- `PAD_Q`, the padding quantum of the impulse (00_scope.md R10). -/
def padQ : Nat := 16

/-- `HIST_HALF`, the distinct samples of history and the modulus of the cursor (00_scope.md R10). -/
def histHalf : Nat := 4096

/-- `HIST_CAP`, the stored samples of history (00_scope.md R10). -/
def histCap : Nat := 8192

/-- `SIMD_GROUP`, taps per SIMD group (00_scope.md R10). -/
def simdGroup : Nat := 16

/-- The instruction family that implements VectorOps (00_scope.md R12).  No command's result depends on it. -/
inductive Family where
  | a
  | b
  deriving DecidableEq, Repr

/-- The parameters of one instance (00_scope.md R12): constants of the machine, written by no step. -/
structure Params where
  /-- `SIMD_PRESENT`, the capability flag. -/
  simdPresent : Bool
  /-- `FAMILY`. -/
  family : Family
  /-- `ALLOC_OK`, false for a permanently inert instance. -/
  allocOk : Bool
  deriving DecidableEq, Repr

/-- One sample source as `SrcInfo` and `SrcSample` show it (10_state.md R36).  `samples` lists the binary32
patterns frame by frame, channel by channel; a sample beyond the list's end is the zero pattern, so that
every source of R36 has such a list (DESIGN CHOICE of representation, log 4). -/
structure Source where
  /-- `sample_count`, in frames. -/
  frames : Word
  /-- `channel_count`. -/
  channels : Word
  /-- `sample_format`; only 0, binary32, is accepted. -/
  format : Byte
  /-- The patterns: sample `(f, c)` stands at index `f * channels + c`. -/
  samples : List Word
  deriving DecidableEq, Repr

/-- The source directory `Src`: a source of identity `id` is valid when the directory lists it. -/
abbrev Directory := List (Word × Source)

/-- THE FREE VALUE.  The bits a NaN produced by arithmetic takes its sign and payload from
(40_vec_arith.md R152: "any value"; 93_implementation_defined.md U5), for the draw counter of the state and
the place in the command (a lane, a sample).  It has no body: nothing can be proved of a value of it. -/
opaque nanDraw : Nat → Nat → Dword

end Sys2Proof.Config
end

