-- ==== Sys2Proof/Syntax.lean ====
section
/-! DEFINITION. The commands of FIRE: one constructor per row of the opcode table (30_encoding.md R125), with the operands its format carries (R113 to R124). -/

namespace Sys2Proof

/-- The precision mode a CONFIG selects (30_encoding.md R120; 10_state.md R43 `WIDTH`). -/
inductive SampleWidth where
  /-- `width = 0`, the native-float path. -/
  | native
  /-- `width = 1`, the host-double path. -/
  | hostDouble
  deriving DecidableEq, Repr

/-- A command port (60_exceptions.md R370). -/
inductive Port where
  /-- Port C, the control context. -/
  | c
  /-- Port P, the processing context. -/
  | p
  deriving DecidableEq, Repr

/-- A command packet: `word0` and its operand words, as a port frames them (30_encoding.md R110). -/
abbrev Packet := List Word

/-- A command of FIRE, by its row of the opcode table. -/
inductive Instr where
  /-- `NOP`, R320. -/
  | nop
  /-- `CONFIG`, R321. -/
  | config (width : SampleWidth) (block maxBlock : BitVec 16)
  /-- `LOADIMP`, R251. -/
  | loadimp (explicit : Bool) (id off req chsel : Word)
  /-- `PROCESS`, R325. -/
  | process
  /-- `CLRDIAG`, R328. -/
  | clrdiag (mask3 : BitVec 3)
  /-- `WRFPM`, R329. -/
  | wrfpm (ftz : Bool)
  /-- `VBCAST.F32`, R160. -/
  | vbcastF32 (vd : VReg) (s : Word)
  /-- `VBCAST.F64`, R160. -/
  | vbcastF64 (vd : VReg) (s : Dword)
  /-- `VBCAST.I32`, R160. -/
  | vbcastI32 (vd : VReg) (s : Word)
  /-- `VBCAST.I64`, R160. -/
  | vbcastI64 (vd : VReg) (s : Dword)
  /-- `VADD.F32`, R161. -/
  | vaddF32 (vd va vb : VReg)
  /-- `VADD.F64`, R161. -/
  | vaddF64 (vd va vb : VReg)
  /-- `VADD.I32`, R162. -/
  | vaddI32 (vd va vb : VReg)
  /-- `VADD.I64`, R162. -/
  | vaddI64 (vd va vb : VReg)
  /-- `VSUB.F32`, R163. -/
  | vsubF32 (vd va vb : VReg)
  /-- `VSUB.F64`, R163. -/
  | vsubF64 (vd va vb : VReg)
  /-- `VSUB.I32`, R164. -/
  | vsubI32 (vd va vb : VReg)
  /-- `VSUB.I64`, R164. -/
  | vsubI64 (vd va vb : VReg)
  /-- `VMUL.F32`, R165. -/
  | vmulF32 (vd va vb : VReg)
  /-- `VMUL.F64`, R165. -/
  | vmulF64 (vd va vb : VReg)
  /-- `VMUL.I32`, R166. -/
  | vmulI32 (vd va vb : VReg)
  /-- `VMUL.I64`, R166. -/
  | vmulI64 (vd va vb : VReg)
  /-- `VDIV.F32`, R167. -/
  | vdivF32 (vd va vb : VReg)
  /-- `VDIV.F64`, R167. -/
  | vdivF64 (vd va vb : VReg)
  /-- `VDIV.I32`, R168. -/
  | vdivI32 (vd va vb : VReg)
  /-- `VDIV.I64`, R168. -/
  | vdivI64 (vd va vb : VReg)
  /-- `VAND.F32`, R181. -/
  | vandF32 (vd va vb : VReg)
  /-- `VAND.F64`, R181. -/
  | vandF64 (vd va vb : VReg)
  /-- `VAND.I32`, R181. -/
  | vandI32 (vd va vb : VReg)
  /-- `VAND.I64`, R181. -/
  | vandI64 (vd va vb : VReg)
  /-- `VANDN.F32`, R182. -/
  | vandnF32 (vd va vb : VReg)
  /-- `VANDN.F64`, R182. -/
  | vandnF64 (vd va vb : VReg)
  /-- `VANDN.I32`, R182. -/
  | vandnI32 (vd va vb : VReg)
  /-- `VANDN.I64`, R182. -/
  | vandnI64 (vd va vb : VReg)
  /-- `VOR.F32`, R183. -/
  | vorF32 (vd va vb : VReg)
  /-- `VOR.F64`, R183. -/
  | vorF64 (vd va vb : VReg)
  /-- `VOR.I32`, R183. -/
  | vorI32 (vd va vb : VReg)
  /-- `VOR.I64`, R183. -/
  | vorI64 (vd va vb : VReg)
  /-- `VXOR.F32`, R184. -/
  | vxorF32 (vd va vb : VReg)
  /-- `VXOR.F64`, R184. -/
  | vxorF64 (vd va vb : VReg)
  /-- `VXOR.I32`, R184. -/
  | vxorI32 (vd va vb : VReg)
  /-- `VXOR.I64`, R184. -/
  | vxorI64 (vd va vb : VReg)
  /-- `VMIN.F32`, R186. -/
  | vminF32 (vd va vb : VReg)
  /-- `VMIN.F64`, R186. -/
  | vminF64 (vd va vb : VReg)
  /-- `VMIN.I32`, R187. -/
  | vminI32 (vd va vb : VReg)
  /-- `VMIN.I64`, R187. -/
  | vminI64 (vd va vb : VReg)
  /-- `VMAX.F32`, R188. -/
  | vmaxF32 (vd va vb : VReg)
  /-- `VMAX.F64`, R188. -/
  | vmaxF64 (vd va vb : VReg)
  /-- `VMAX.I32`, R189. -/
  | vmaxI32 (vd va vb : VReg)
  /-- `VMAX.I64`, R189. -/
  | vmaxI64 (vd va vb : VReg)
  /-- `VCMPEQ.F32`, R201. -/
  | vcmpeqF32 (vd va vb : VReg)
  /-- `VCMPEQ.F64`, R201. -/
  | vcmpeqF64 (vd va vb : VReg)
  /-- `VCMPEQ.I32`, R202. -/
  | vcmpeqI32 (vd va vb : VReg)
  /-- `VCMPEQ.I64`, R202. -/
  | vcmpeqI64 (vd va vb : VReg)
  /-- `VCMPGT.F32`, R203. -/
  | vcmpgtF32 (vd va vb : VReg)
  /-- `VCMPGT.F64`, R203. -/
  | vcmpgtF64 (vd va vb : VReg)
  /-- `VCMPGT.I32`, R204. -/
  | vcmpgtI32 (vd va vb : VReg)
  /-- `VCMPGT.I64`, R204. -/
  | vcmpgtI64 (vd va vb : VReg)
  /-- `VCMPLT.F32`, R205. -/
  | vcmpltF32 (vd va vb : VReg)
  /-- `VCMPLT.F64`, R205. -/
  | vcmpltF64 (vd va vb : VReg)
  /-- `VCMPLT.I32`, R206. -/
  | vcmpltI32 (vd va vb : VReg)
  /-- `VCMPLT.I64`, R206. -/
  | vcmpltI64 (vd va vb : VReg)
  /-- `VTEQ.F32`, R207. -/
  | vteqF32 (vd va vb : VReg)
  /-- `VTEQ.F64`, R207. -/
  | vteqF64 (vd va vb : VReg)
  /-- `VTGT.F32`, R208. -/
  | vtgtF32 (vd va vb : VReg)
  /-- `VTGT.F64`, R208. -/
  | vtgtF64 (vd va vb : VReg)
  /-- `VTLT.F32`, R209. -/
  | vtltF32 (vd va vb : VReg)
  /-- `VTLT.F64`, R209. -/
  | vtltF64 (vd va vb : VReg)
  /-- `VSEL.F32`, R211. -/
  | vselF32 (vd va vb vm : VReg)
  /-- `VSEL.F64`, R211. -/
  | vselF64 (vd va vb vm : VReg)
  /-- `VSEL.I32`, R211. -/
  | vselI32 (vd va vb vm : VReg)
  /-- `VSEL.I64`, R211. -/
  | vselI64 (vd va vb vm : VReg)
  /-- `VLDU.F32`, R222. -/
  | vlduF32 (vd : VReg) (addr : Word)
  /-- `VLDU.F64`, R222. -/
  | vlduF64 (vd : VReg) (addr : Word)
  /-- `VLDU.I32`, R222. -/
  | vlduI32 (vd : VReg) (addr : Word)
  /-- `VLDU.I64`, R222. -/
  | vlduI64 (vd : VReg) (addr : Word)
  /-- `VSTU.F32`, R223. -/
  | vstuF32 (vd : VReg) (addr : Word)
  /-- `VSTU.F64`, R223. -/
  | vstuF64 (vd : VReg) (addr : Word)
  /-- `VSTU.I32`, R223. -/
  | vstuI32 (vd : VReg) (addr : Word)
  /-- `VSTU.I64`, R223. -/
  | vstuI64 (vd : VReg) (addr : Word)
  /-- `VSHUF.F32`, R226. -/
  | vshufF32 (vd va vb : VReg) (imm8 : BitVec 8)
  /-- `VSHUF.F64`, R227. -/
  | vshufF64 (vd va vb : VReg) (imm8 : BitVec 8)
  /-- `VSHUF.I32`, R226. -/
  | vshufI32 (vd va vb : VReg) (imm8 : BitVec 8)
  /-- `VSHUF.I64`, R227. -/
  | vshufI64 (vd va vb : VReg) (imm8 : BitVec 8)
  /-- `VCVT.F32.I32`, R231. -/
  | vcvtF32I32 (vd va : VReg)
  /-- `VCVTT.I32.F32`, R232. -/
  | vcvttI32F32 (vd va : VReg)
  /-- `VCVTR.I32.F32`, R233. -/
  | vcvtrI32F32 (vd va : VReg)
  /-- `VCVT.F64.I64`, R234. -/
  | vcvtF64I64 (vd va : VReg)
  /-- `VCVTT.I64.F64`, R235. -/
  | vcvttI64F64 (vd va : VReg)
  /-- `VCVTR.I64.F64`, R236. -/
  | vcvtrI64F64 (vd va : VReg)
  /-- `VCVT.F32.F64`, R237. -/
  | vcvtF32F64 (vd va : VReg)
  /-- `VCVT.F64.F32`, R238. -/
  | vcvtF64F32 (vd va : VReg)
  deriving DecidableEq, Repr

end Sys2Proof
end

