-- ==== Sys2Proof/Machine/State.lean ====
section
/-! DEFINITION. The state of one FIRE instance as plain data (10_state.md R20), the model's own fields beside it, the outcomes a step cannot have, and the state after reset (10_state.md R60). -/

namespace Sys2Proof.Machine

open Sys2Proof.Config

/-- The local data space (20_memory.md R74): byte cells, addresses strictly rising, none that reads as an
unlisted byte does.  `Memory.wf` of Machine/Ops.lean says the form. -/
abbrev Memory := List Host.Cell

/-- Error codes (60_exceptions.md R351).  Codes 7 to 255 are never produced, so they have no constructor. -/
inductive ErrCode where
  | ok
  | illegal
  | badConfig
  | notConfigured
  | addr
  | noSimd
  | port
  deriving DecidableEq, Repr

/-- The fields of `CSR.STATUS` (10_state.md R43); its other bits are hardwired zero. -/
structure Status where
  /-- Bit 0, set by a successful CONFIG. -/
  configured : Bool
  /-- Bit 1, set at reset when allocation failed. -/
  inert : Bool
  /-- Bit 2, the SIMD axis of the dispatcher. -/
  simdSel : Bool
  /-- Bit 3, the precision mode. -/
  width : SampleWidth
  /-- Bits 15:8, the code of the last command executed from port P. -/
  lastErrP : ErrCode
  /-- Bits 23:16, the code of the last command executed from port C. -/
  lastErrC : ErrCode
  deriving DecidableEq, Repr

/-- The sticky diagnostics, bits 2:0 of `CSR.DIAG` (10_state.md R44); its other bits are hardwired zero. -/
structure Diag where
  /-- Bit 0. -/
  allocFail : Bool
  /-- Bit 1. -/
  srcShort : Bool
  /-- Bit 2. -/
  srcInvalid : Bool
  deriving DecidableEq, Repr

/-- One input of the machine, one step of its total order (00_scope.md R17, 20_memory.md R90 to R92; log 1). -/
inductive Input where
  /-- The host presents a packet on a port (10_state.md R22). -/
  | present (port : Port) (packet : Packet)
  /-- The arbiter executes the oldest packet presented on a port (20_memory.md R91). -/
  | serve (port : Port)
  /-- `HostRead32(a)` (20_memory.md R77). -/
  | hostRead (addr : Word)
  /-- `HostWrite32(a, v)` (20_memory.md R78). -/
  | hostWrite (addr value : Word)
  /-- `CsrRead(n)` (10_state.md R40). -/
  | csrRead (n : Word)
  /-- The host changes the sample sources between two commands (10_state.md R37). -/
  | changeSources (dir : Directory)
  /-- The reset input (70_reset_and_hazards.md R390). -/
  | reset
  deriving DecidableEq, Repr

/-- What a step answers to the host (60_exceptions.md R350; 20_memory.md R77, R78; 10_state.md R40; log 8). -/
inductive Output where
  /-- No answer. -/
  | none
  /-- `Resp = (err, val)`, the response to a command. -/
  | response (err : ErrCode) (val : Word)
  /-- The data of a host read. -/
  | data (value : Word)
  /-- A host write that was made. -/
  | written
  /-- The error indication of the host memory port. -/
  | portError
  deriving DecidableEq, Repr

/-- Faults: FIRE has none (60_exceptions.md R350, R362, R363).  A command whose checks fail is refused by a
next state (R352), and no value makes a command fail (R359), so the type has no constructor and nothing
raises one: safe. -/
inductive Fault where
  deriving DecidableEq, Repr

/-- Refusals of the MODEL (not the spec's `refuse`, which is a next state). -/
inductive Refusal where
  /-- Raised by an arm of `exec` whose command has no meaning yet; no arm is one.  Safe: the machine would
  go on where the model stops. -/
  | notModelled (mnemonic : String)
  deriving DecidableEq, Repr

/-- The state of one FIRE instance (10_state.md R20), then the model's own fields. -/
structure State where
  /-- `V[0..15]` (R24). -/
  v : Vector Vec 16
  /-- HIST, IMP, INB, OUTB (R30 to R34). -/
  mem : Memory
  /-- `CSR.STATUS` (R43). -/
  status : Status
  /-- `CSR.DIAG` (R44). -/
  diag : Diag
  /-- `CSR.CFG_BLOCK` (R45). -/
  cfgBlock : Word
  /-- `CSR.CFG_MAXBLOCK` (R46). -/
  cfgMaxBlock : Word
  /-- `CSR.IMP_LEN` (R47). -/
  impLen : Word
  /-- `CSR.IMP_PADLEN` (R48). -/
  impPadLen : Word
  /-- `CSR.IN_POS` (R49). -/
  inPos : Word
  /-- `CSR.WIN_START` (R50). -/
  winStart : Word
  /-- `CSR.WIN_LEN` (R51). -/
  winLen : Word
  /-- `CSR.FPMODE.FTZ` (R52). -/
  ftz : Bool
  /-- The instance parameters (00_scope.md R12), written by no step (log 3). -/
  params : Params
  /-- The source directory `Src` (R36; log 4). -/
  sources : Directory
  /-- The inputs still to come, in their total order (log 1). -/
  schedule : List Input
  /-- Packets presented on port C and not yet executed, oldest first (log 1). -/
  queueC : List Packet
  /-- Packets presented on port P and not yet executed, oldest first (log 1). -/
  queueP : List Packet
  /-- The port of the command being executed (00_scope.md R17; log 1). -/
  port : Port
  /-- What the last step answered (log 8). -/
  output : Output
  /-- The draw counter of the free values (log 7). -/
  draws : Nat
  deriving DecidableEq, Repr

/-- The state after reset of an instance with parameters `params` (10_state.md R60, 70_reset_and_hazards.md
R390, R391).  The vector registers and the bytes of INB and OUTB, which the spec leaves unspecified, are
zero (DESIGN CHOICE, unsafe: log 5, log 6). -/
def State.resetWith (params : Params) (sources : Directory) : State where
  v := Vector.replicate 16 0
  mem := []
  status :=
    { configured := false, inert := !params.allocOk, simdSel := false, width := .native, lastErrP := .ok, lastErrC := .ok }
  diag := { allocFail := !params.allocOk, srcShort := false, srcInvalid := false }
  cfgBlock := 0
  cfgMaxBlock := 0
  impLen := 0
  impPadLen := 0
  inPos := 0
  winStart := 0
  winLen := 0
  ftz := false
  params := params
  sources := sources
  schedule := []
  queueC := []
  queueP := []
  port := .p
  output := .none
  draws := 0

/-- The machine right after reset, for the instance the log names: SIMD present, family A, allocation
succeeded, no sample source, nothing presented (DESIGN CHOICE: log 3, log 4). -/
def State.reset : State :=
  State.resetWith { simdPresent := true, family := .a, allocOk := true } []

end Sys2Proof.Machine
end

