-- ==== Sys2Proof/Machine/Operands.lean ====
section
/-! DEFINITION. The operand forms of the commands: lanes of a vector value (00_scope.md R14), the regions of the local data space and the containment of a 16-byte access (20_memory.md R74, R76), samples of a source (10_state.md R36). -/

namespace Sys2Proof.Machine

open Sys2Proof.Config

/-- `lane_W(v, k)` (00_scope.md R14): lane 0 is the least significant `W` bits. -/
def lane (W : Nat) (v : Vec) (k : Nat) : BitVec W := v.extractLsb' (W * k) W

/-- `vec_32(e0, e1, e2, e3)` (00_scope.md R14). -/
def vec32 (e0 e1 e2 e3 : Word) : Vec := e3 ++ e2 ++ e1 ++ e0

/-- `vec_64(e0, e1)` (00_scope.md R14). -/
def vec64 (e0 e1 : Dword) : Vec := e1 ++ e0

/-- `vec_32` of the four values of a function of the lane. -/
def gen32 (f : Nat → Word) : Vec := vec32 (f 0) (f 1) (f 2) (f 3)

/-- `vec_64` of the two values of a function of the lane. -/
def gen64 (f : Nat → Dword) : Vec := vec64 (f 0) (f 1)

/-- Lane-wise operation on 32-bit lanes; `f` is told the lane (40_vec_arith.md R150 (e)). -/
def map32 (f : Nat → Word → Word → Word) (a b : Vec) : Vec :=
  gen32 fun k => f k (lane 32 a k) (lane 32 b k)

/-- Lane-wise operation on 64-bit lanes. -/
def map64 (f : Nat → Dword → Dword → Dword) (a b : Vec) : Vec :=
  gen64 fun k => f k (lane 64 a k) (lane 64 b k)

/-- One of the four regions (20_memory.md R74). -/
inductive Region where
  | hist
  | imp
  | inb
  | outb
  deriving DecidableEq, Repr

/-- First byte of a region (20_memory.md R74). -/
def Region.base : Region → Nat
  | .hist => 0x00000
  | .imp => 0x08000
  | .inb => 0x0A000
  | .outb => 0x0E000

/-- Last byte of a region (20_memory.md R74). -/
def Region.last : Region → Nat
  | .hist => 0x07FFF
  | .imp => 0x09FFF
  | .inb => 0x0DFFF
  | .outb => 0x11FFF

/-- The bytes of the local data space: addresses from here on are unmapped (20_memory.md R74). -/
def mapEnd : Nat := 0x12000

/-- `contained(a, R)`: the 16 bytes at `a` lie in the region, in unbounded integers
(43_vec_mem_shuffle_convert.md R220). -/
def contained (a : Nat) (r : Region) : Bool := decide (r.base ≤ a ∧ a + 15 ≤ r.last)

/-- Where VLDU may read (43_vec_mem_shuffle_convert.md R222). -/
def loadable (a : Nat) : Bool :=
  contained a .hist || contained a .imp || contained a .inb || contained a .outb

/-- Where VSTU may write (43_vec_mem_shuffle_convert.md R223). -/
def storable (a : Nat) : Bool := contained a .inb || contained a .outb

/-- The word of an aligned host read is mapped (20_memory.md R77). -/
def hostReadable (a : Nat) : Bool := decide (a % 4 = 0 ∧ a < mapEnd)

/-- The word of an aligned host write is inside INB or OUTB (20_memory.md R78). -/
def hostWritable (a : Nat) : Bool := decide (a % 4 = 0 ∧ Region.inb.base ≤ a ∧ a ≤ Region.outb.last)

/-- `SrcInfo(id).valid` and the source it names (10_state.md R36). -/
def sourceOf : Directory → Word → Option Source
  | [], _ => none
  | (k, src) :: dir, id => if k = id then some src else sourceOf dir id

/-- `SrcSample(id, f, c)` of a valid source (10_state.md R36). -/
def sampleOf (src : Source) (f c : Nat) : Word := src.samples.getD (f * src.channels.toNat + c) 0

end Sys2Proof.Machine
end

