-- ==== Sys2Proof/Machine/Float.lean ====
section
/-! DEFINITION. IEEE 754 arithmetic as 40_vec_arith.md R151 to R155 gives it: exact results in natural numbers of quanta, one rounding to nearest even, then flush-to-zero.  Every function is total (R150 (g)); a NaN it produces takes its sign and payload from drawn bits (R152). -/

namespace Sys2Proof.Machine

/-- A binary format of `w` bits: one sign bit, `expBits` exponent bits, `fracBits` fraction bits (R151). -/
structure FloatFormat (w : Nat) where
  expBits : Nat
  fracBits : Nat
  deriving DecidableEq, Repr

/-- IEEE 754 binary32 (R151). -/
def f32 : FloatFormat 32 := { expBits := 8, fracBits := 23 }

/-- IEEE 754 binary64 (R151). -/
def f64 : FloatFormat 64 := { expBits := 11, fracBits := 52 }

/-- The exponent field of all ones. -/
def FloatFormat.maxExp {w : Nat} (F : FloatFormat w) : Nat := 2 ^ F.expBits - 1

/-- The pattern of +infinity, as a number. -/
def FloatFormat.infMag {w : Nat} (F : FloatFormat w) : Nat := F.maxExp * 2 ^ F.fracBits

/-- The quantum of the format is `2 ^ -F.shift`: its smallest subnormal, 149 for binary32, 1074 for
binary64 (R151).  Every finite value is a whole number of quanta. -/
def FloatFormat.shift {w : Nat} (F : FloatFormat w) : Nat := 2 ^ (F.expBits - 1) - 2 + F.fracBits

/-- What a pattern denotes (R151): a NaN, an infinity, or a finite value of `quanta` quanta. -/
inductive FloatValue where
  | nan
  | inf (neg : Bool)
  | fin (neg : Bool) (quanta : Nat)
  deriving DecidableEq, Repr

/-- The sign bit. -/
def FloatFormat.sign {w : Nat} (_ : FloatFormat w) (x : BitVec w) : Bool := x.msb

/-- The pattern without its sign bit, as a number. -/
def FloatFormat.mag {w : Nat} (_ : FloatFormat w) (x : BitVec w) : Nat := x.toNat % 2 ^ (w - 1)

/-- The quanta of a finite magnitude: a subnormal's are its fraction, a normal number's are its significand
shifted by its exponent (R151). -/
def FloatFormat.quanta {w : Nat} (F : FloatFormat w) (mag : Nat) : Nat :=
  let e := mag / 2 ^ F.fracBits
  let frac := mag % 2 ^ F.fracBits
  if e = 0 then frac else (2 ^ F.fracBits + frac) * 2 ^ (e - 1)

/-- The value of a pattern (R151). -/
def FloatFormat.value {w : Nat} (F : FloatFormat w) (x : BitVec w) : FloatValue :=
  if F.mag x < F.infMag then .fin (F.sign x) (F.quanta (F.mag x))
  else if F.mag x = F.infMag then .inf (F.sign x)
  else .nan

/-- `isNaN` of a pattern (R151). -/
def FloatFormat.isNaN {w : Nat} (F : FloatFormat w) (x : BitVec w) : Bool := decide (F.infMag < F.mag x)

/-- The pattern of a sign and a magnitude. -/
def FloatFormat.pack {w : Nat} (_ : FloatFormat w) (neg : Bool) (mag : Nat) : BitVec w :=
  BitVec.ofNat w (if neg then 2 ^ (w - 1) + mag else mag)

/-- A zero of the given sign. -/
def FloatFormat.zero {w : Nat} (F : FloatFormat w) (neg : Bool) : BitVec w := F.pack neg 0

/-- An infinity of the given sign. -/
def FloatFormat.infinity {w : Nat} (F : FloatFormat w) (neg : Bool) : BitVec w := F.pack neg F.infMag

/-- A quiet NaN whose sign and remaining fraction bits are those of `draw` (R152). -/
def FloatFormat.quietNaN {w : Nat} (F : FloatFormat w) (draw : Dword) : BitVec w :=
  F.pack (draw.toNat / 2 ^ (w - 1) % 2 = 1)
    (F.infMag + 2 ^ (F.fracBits - 1) + draw.toNat % 2 ^ (F.fracBits - 1))

/-- `n / d` rounded to the nearest natural number, ties to the even one (R152). -/
def nearestEven (n d : Nat) : Nat :=
  if 2 * (n % d) < d then n / d
  else if d < 2 * (n % d) then n / d + 1
  else n / d + n / d % 2

/-- The magnitude of `n / d` quanta rounded to the format: round to nearest, ties to even, gradual underflow,
overflow to infinity (R152).  `2 ^ q` quanta is the spacing of the format at the value. -/
def FloatFormat.roundMag {w : Nat} (F : FloatFormat w) (n d : Nat) : Nat :=
  let whole := n / d
  let q := if whole < 2 ^ (F.fracBits + 1) then 0 else Nat.log2 whole - F.fracBits
  min (q * 2 ^ F.fracBits + nearestEven n (d * 2 ^ q)) F.infMag

/-- The value `n / d` quanta with a sign, rounded to the format (R152). -/
def FloatFormat.round {w : Nat} (F : FloatFormat w) (neg : Bool) (n d : Nat) : BitVec w :=
  F.pack neg (F.roundMag n d)

/-- `flush_W(r, z)`: with `z` a subnormal becomes the zero of its sign (R153). -/
def FloatFormat.flush {w : Nat} (F : FloatFormat w) (z : Bool) (r : BitVec w) : BitVec w :=
  if z && decide (0 < F.mag r ∧ F.mag r < 2 ^ F.fracBits) then F.zero (F.sign r) else r

/-- A signed number of quanta. -/
def signedQuanta (neg : Bool) (n : Nat) : Int := if neg then -(n : Int) else n

/-- `fadd_W(a, b, z)` (R152, R153). -/
def FloatFormat.add {w : Nat} (F : FloatFormat w) (z : Bool) (draw : Dword) (a b : BitVec w) : BitVec w :=
  match F.value a, F.value b with
  | .nan, _ => F.quietNaN draw
  | _, .nan => F.quietNaN draw
  | .inf s, .inf t => if s = t then F.infinity s else F.quietNaN draw
  | .inf s, .fin _ _ => F.infinity s
  | .fin _ _, .inf t => F.infinity t
  | .fin s m, .fin t n =>
    let sum := signedQuanta s m + signedQuanta t n
    if sum = 0 then F.zero (s && t) else F.flush z (F.round (decide (sum < 0)) sum.natAbs 1)

/-- The pattern with its sign bit inverted (40_vec_arith.md R163 `neg`). -/
def FloatFormat.negate {w : Nat} (_ : FloatFormat w) (x : BitVec w) : BitVec w := x ^^^ BitVec.twoPow w (w - 1)

/-- `fsub_W(a, b, z)`: the sum of `a` and the negated `b`; a NaN operand gives a drawn NaN either way
(40_vec_arith.md R163). -/
def FloatFormat.sub {w : Nat} (F : FloatFormat w) (z : Bool) (draw : Dword) (a b : BitVec w) : BitVec w :=
  F.add z draw a (F.negate b)

/-- `fmul_W(a, b, z)` (R152, R153). -/
def FloatFormat.mul {w : Nat} (F : FloatFormat w) (z : Bool) (draw : Dword) (a b : BitVec w) : BitVec w :=
  match F.value a, F.value b with
  | .nan, _ => F.quietNaN draw
  | _, .nan => F.quietNaN draw
  | .inf s, .inf t => F.infinity (s ^^ t)
  | .inf s, .fin t n => if n = 0 then F.quietNaN draw else F.infinity (s ^^ t)
  | .fin s m, .inf t => if m = 0 then F.quietNaN draw else F.infinity (s ^^ t)
  | .fin s m, .fin t n => F.flush z (F.round (s ^^ t) (m * n) (2 ^ F.shift))

/-- `fdiv_W(a, b, z)` (R152, R153; log 11 for an infinity divided by a finite number). -/
def FloatFormat.div {w : Nat} (F : FloatFormat w) (z : Bool) (draw : Dword) (a b : BitVec w) : BitVec w :=
  match F.value a, F.value b with
  | .nan, _ => F.quietNaN draw
  | _, .nan => F.quietNaN draw
  | .inf _, .inf _ => F.quietNaN draw
  | .inf s, .fin t _ => F.infinity (s ^^ t)
  | .fin s _, .inf t => F.zero (s ^^ t)
  | .fin s m, .fin t n =>
    if n = 0 then (if m = 0 then F.quietNaN draw else F.infinity (s ^^ t))
    else F.flush z (F.round (s ^^ t) (m * 2 ^ F.shift) n)

/-- `feq_W(a, b)` (42_vec_compare_select.md R200). -/
def FloatFormat.eq {w : Nat} (F : FloatFormat w) (a b : BitVec w) : Bool :=
  match F.value a, F.value b with
  | .nan, _ => false
  | _, .nan => false
  | .inf s, .inf t => decide (s = t)
  | .inf _, .fin _ _ => false
  | .fin _ _, .inf _ => false
  | .fin s m, .fin t n => decide (signedQuanta s m = signedQuanta t n)

/-- `flt_W(a, b)` (42_vec_compare_select.md R200). -/
def FloatFormat.lt {w : Nat} (F : FloatFormat w) (a b : BitVec w) : Bool :=
  match F.value a, F.value b with
  | .nan, _ => false
  | _, .nan => false
  | .inf s, .inf t => s && !t
  | .inf s, .fin _ _ => s
  | .fin _ _, .inf t => !t
  | .fin s m, .fin t n => decide (signedQuanta s m < signedQuanta t n)

/-- `fgt_W(a, b)` (42_vec_compare_select.md R200). -/
def FloatFormat.gt {w : Nat} (F : FloatFormat w) (a b : BitVec w) : Bool := F.lt b a

/-- A signed integer rounded to the format (43_vec_mem_shuffle_convert.md R230, R231, R234); 0 gives +0.0. -/
def FloatFormat.ofInt {w : Nat} (F : FloatFormat w) (x : Int) : BitVec w :=
  F.round (decide (x < 0)) (x.natAbs * 2 ^ F.shift) 1

/-- `n` saturated to the signed range of `w` bits, as a pattern (43_vec_mem_shuffle_convert.md R230). -/
def saturate (w : Nat) (n : Int) : BitVec w :=
  if 2 ^ (w - 1) - 1 < n then BitVec.intMax w
  else if n < -(2 ^ (w - 1)) then BitVec.intMin w
  else BitVec.ofInt w n

/-- Float to integer with the given rounding of a magnitude of quanta to a natural number
(43_vec_mem_shuffle_convert.md R230): NaN gives 0, an infinity the end of the range. -/
def FloatFormat.toIntWith {w : Nat} (F : FloatFormat w) (rounded : Nat → Nat) (x : BitVec w) : BitVec w :=
  match F.value x with
  | .nan => 0
  | .inf s => if s then BitVec.intMin w else BitVec.intMax w
  | .fin s m => saturate w (signedQuanta s (rounded m))

/-- Truncating conversion, `trunc` (43_vec_mem_shuffle_convert.md R232, R235). -/
def FloatFormat.toIntTrunc {w : Nat} (F : FloatFormat w) (x : BitVec w) : BitVec w :=
  F.toIntWith (fun m => m / 2 ^ F.shift) x

/-- Rounding conversion, `rne` (43_vec_mem_shuffle_convert.md R233, R236). -/
def FloatFormat.toIntNearest {w : Nat} (F : FloatFormat w) (x : BitVec w) : BitVec w :=
  F.toIntWith (fun m => nearestEven m (2 ^ F.shift)) x

/-- `narrow(d, z)` (43_vec_mem_shuffle_convert.md R237). -/
def narrow (z : Bool) (draw : Dword) (d : Dword) : Word :=
  match f64.value d with
  | .nan => f32.quietNaN draw
  | .inf s => f32.infinity s
  | .fin s m => f32.flush z (f32.round s m (2 ^ (f64.shift - f32.shift)))

/-- `widen(f)` (43_vec_mem_shuffle_convert.md R238). -/
def widen (draw : Dword) (f : Word) : Dword :=
  match f32.value f with
  | .nan => f64.quietNaN draw
  | .inf s => f64.infinity s
  | .fin s m => f64.round s (m * 2 ^ (f64.shift - f32.shift)) 1

/-- `idiv_W(a, b)`, signed and truncating (40_vec_arith.md R156, R168). -/
def intDiv {w : Nat} (a b : BitVec w) : BitVec w :=
  if b = 0 then BitVec.allOnes w
  else if a = BitVec.intMin w ∧ b = BitVec.allOnes w then BitVec.intMin w
  else BitVec.ofInt w (a.toInt.tdiv b.toInt)

/-- `ones_W` or 0, a mask lane (42_vec_compare_select.md R210). -/
def maskLane (w : Nat) (b : Bool) : BitVec w := if b then BitVec.allOnes w else 0

/-- `one_W`, the pattern of 1.0 (42_vec_compare_select.md R207). -/
def FloatFormat.one {w : Nat} (F : FloatFormat w) : BitVec w := F.pack false ((2 ^ (F.expBits - 1) - 1) * 2 ^ F.fracBits)

/-- `one_W` or +0.0, a numeric truth value (42_vec_compare_select.md R207). -/
def FloatFormat.truth {w : Nat} (F : FloatFormat w) (b : Bool) : BitVec w := if b then F.one else 0

/-- Compare and pick (41_vec_logic_minmax.md R185): the first source when the comparison holds, else the
second. -/
def pick {w : Nat} (takeFirst : BitVec w → BitVec w → Bool) (a b : BitVec w) : BitVec w :=
  if takeFirst a b then a else b

/-- Signed less-than of integer lanes (42_vec_compare_select.md R200 `ilt_W`). -/
def intLt {w : Nat} (a b : BitVec w) : Bool := decide (a.toInt < b.toInt)

/-- Signed greater-than of integer lanes (42_vec_compare_select.md R200 `igt_W`). -/
def intGt {w : Nat} (a b : BitVec w) : Bool := decide (a.toInt > b.toInt)

/-- Equality of integer lanes as patterns (42_vec_compare_select.md R200 `ieq_W`). -/
def intEq {w : Nat} (a b : BitVec w) : Bool := decide (a = b)

end Sys2Proof.Machine
end

