-- ==== Sys2Proof/WellFormed.lean ====
section
/-! DEFINITION. Which terms of `Instr` an encoding exists for.  Register numbers and operand words are well formed by their types; the one check left is the immediate of a 64-bit shuffle. -/

namespace Sys2Proof

/-- A 64-bit VSHUF selector: bits 7:2 must be zero (30_encoding.md R116, 43_vec_mem_shuffle_convert.md R227). -/
def shuffleImm64Ok (imm8 : BitVec 8) : Bool := decide (imm8.toNat < 4)

/-- The check of a command term against 30_encoding.md R113 to R124. -/
def Instr.wellFormed : Instr → Bool
  | .vshufF64 _ _ _ imm8 => shuffleImm64Ok imm8
  | .vshufI64 _ _ _ imm8 => shuffleImm64Ok imm8
  | _ => true

end Sys2Proof
end

