-- ==== Sys2Proof/Decode.lean ====
section
/-! DEFINITION. The decoder and the encoder of command packets, from 30_encoding.md.  Decoding is total: every packet is a command or is rejected by name. -/

namespace Sys2Proof

/-- Why a packet is no command. -/
inductive DecodeError where
  /-- The packet has no words, so it has no `word0` (30_encoding.md R110; log 16). -/
  | emptyPacket
  /-- `op` is not in the opcode map (30_encoding.md R126 (a), 60_exceptions.md R358 step 1). -/
  | reservedOpcode
  /-- `op` is in the map, and the element type, a reserved field or the packet's length is wrong
  (30_encoding.md R126 (b) to (d), 60_exceptions.md R358 step 3). -/
  | malformed
  deriving DecidableEq, Repr

/-- What decoding answers. -/
abbrev Decoded := Except DecodeError Instr

/-- The element types of a VectorOps command (00_scope.md R15). -/
inductive ElemType where
  | f32
  | f64
  | i32
  | i64
  deriving DecidableEq, Repr

/-- `w[hi:lo]` as an unsigned number (00_scope.md R13). -/
def field (w : Word) (hi lo : Nat) : Nat := w.toNat / 2 ^ lo % 2 ^ (hi - lo + 1)

/-- The 4-bit register field whose lowest bit is `lo` (30_encoding.md R111). -/
def regField (w : Word) (lo : Nat) : VReg := Fin.ofNat 16 (w.toNat / 2 ^ lo)

/-- `et`, bits 23:22 (30_encoding.md R112). -/
def elemType (w : Word) : ElemType :=
  if field w 23 22 = 0 then .f32
  else if field w 23 22 = 1 then .f64
  else if field w 23 22 = 2 then .i32
  else .i64

/-- The 2-bit code of an element type (30_encoding.md R112). -/
def ElemType.code : ElemType → Nat
  | .f32 => 0
  | .f64 => 1
  | .i32 => 2
  | .i64 => 3

/-- A command with a row for each element type (30_encoding.md R125 "all four"). -/
def allTypes {α : Type} (f32 f64 i32 i64 : α) : ElemType → Option α
  | .f32 => some f32
  | .f64 => some f64
  | .i32 => some i32
  | .i64 => some i64

/-- A command with a row for the float types only (30_encoding.md R125: VTEQ, VTGT, VTLT). -/
def floatTypes {α : Type} (f32 f64 : α) : ElemType → Option α
  | .f32 => some f32
  | .f64 => some f64
  | .i32 => none
  | .i64 => none

/-- A command with exactly one legal element type (30_encoding.md R117). -/
def onlyType {α : Type} (t : ElemType) (x : α) : ElemType → Option α :=
  fun u => if u = t then some x else none

/-- Reject unless the reserved fields are zero. -/
def whenZero (reserved : Bool) (i : Instr) : Decoded := if reserved then .ok i else .error .malformed

/-- The number of operand words `word0` asks for (30_encoding.md R129). -/
def operandWords (w : Word) : Nat :=
  if field w 31 24 = 0x01 then 1
  else if field w 31 24 = 0x02 then 4
  else if field w 31 24 = 0x10 then (if field w 23 22 = 1 ∨ field w 23 22 = 3 then 2 else 1)
  else if field w 31 24 = 0x22 ∨ field w 31 24 = 0x23 then 1
  else 0

/-- Format N (30_encoding.md R113). -/
def formatN (w : Word) (ops : Packet) (i : Instr) : Decoded :=
  match ops with
  | [] => whenZero (field w 23 0 == 0) i
  | _ => .error .malformed

/-- Format C, CONFIG (30_encoding.md R120). -/
def formatC (w : Word) (ops : Packet) : Decoded :=
  match ops with
  | [w1] => whenZero (field w 23 1 == 0)
      (.config (if field w 0 0 = 0 then .native else .hostDouble) (w1.extractLsb' 0 16) (w1.extractLsb' 16 16))
  | _ => .error .malformed

/-- Format L, LOADIMP (30_encoding.md R121). -/
def formatL (w : Word) (ops : Packet) : Decoded :=
  match ops with
  | [w1, w2, w3, w4] => whenZero (field w 23 1 == 0) (.loadimp (field w 0 0 == 1) w1 w2 w3 w4)
  | _ => .error .malformed

/-- Format D, CLRDIAG (30_encoding.md R122). -/
def formatD (w : Word) (ops : Packet) : Decoded :=
  match ops with
  | [] => whenZero (field w 23 3 == 0) (.clrdiag (w.extractLsb' 0 3))
  | _ => .error .malformed

/-- Format F, WRFPM (30_encoding.md R123). -/
def formatF (w : Word) (ops : Packet) : Decoded :=
  match ops with
  | [] => whenZero (field w 23 1 == 0) (.wrfpm (field w 0 0 == 1))
  | _ => .error .malformed

/-- Format R, three registers (30_encoding.md R114). -/
def formatR (w : Word) (ops : Packet) (row : ElemType → Option (VReg → VReg → VReg → Instr)) : Decoded :=
  match row (elemType w), ops with
  | some mk, [] => whenZero (field w 21 20 == 0 && field w 7 0 == 0)
      (mk (regField w 16) (regField w 12) (regField w 8))
  | _, _ => .error .malformed

/-- Format R4, four registers (30_encoding.md R115). -/
def formatR4 (w : Word) (ops : Packet) (row : ElemType → Option (VReg → VReg → VReg → VReg → Instr)) : Decoded :=
  match row (elemType w), ops with
  | some mk, [] => whenZero (field w 21 20 == 0 && field w 3 0 == 0)
      (mk (regField w 16) (regField w 12) (regField w 8) (regField w 4))
  | _, _ => .error .malformed

/-- Format I, two registers and an immediate; a 64-bit selector has bits 7:2 zero (30_encoding.md R116). -/
def formatI (w : Word) (ops : Packet) (row : ElemType → Option (VReg → VReg → VReg → BitVec 8 → Instr)) : Decoded :=
  match row (elemType w), ops with
  | some mk, [] => whenZero (field w 21 20 == 0 && (decide (field w 23 22 % 2 = 0) || field w 7 2 == 0))
      (mk (regField w 16) (regField w 12) (regField w 8) (w.extractLsb' 0 8))
  | _, _ => .error .malformed

/-- Format U, one source register (30_encoding.md R117). -/
def formatU (w : Word) (ops : Packet) (row : ElemType → Option (VReg → VReg → Instr)) : Decoded :=
  match row (elemType w), ops with
  | some mk, [] => whenZero (field w 21 20 == 0 && field w 11 0 == 0) (mk (regField w 16) (regField w 12))
  | _, _ => .error .malformed

/-- Format M, a register and an address (30_encoding.md R118). -/
def formatM (w : Word) (ops : Packet) (row : ElemType → Option (VReg → Word → Instr)) : Decoded :=
  match row (elemType w), ops with
  | some mk, [w1] => whenZero (field w 21 20 == 0 && field w 15 0 == 0) (mk (regField w 16) w1)
  | _, _ => .error .malformed

/-- Format B, a register and a scalar of one or two words (30_encoding.md R119). -/
def formatB (w : Word) (ops : Packet) : Decoded :=
  let zero := field w 21 20 == 0 && field w 15 0 == 0
  match elemType w, ops with
  | .f32, [w1] => whenZero zero (.vbcastF32 (regField w 16) w1)
  | .f64, [w1, w2] => whenZero zero (.vbcastF64 (regField w 16) (w2 ++ w1))
  | .i32, [w1] => whenZero zero (.vbcastI32 (regField w 16) w1)
  | .i64, [w1, w2] => whenZero zero (.vbcastI64 (regField w 16) (w2 ++ w1))
  | _, _ => .error .malformed

/-- The opcode map (30_encoding.md R125). -/
def decodeOp (op : Nat) (w : Word) (ops : Packet) : Decoded :=
  match op with
  | 0x00 => formatN w ops .nop
  | 0x01 => formatC w ops
  | 0x02 => formatL w ops
  | 0x03 => formatN w ops .process
  | 0x04 => formatD w ops
  | 0x05 => formatF w ops
  | 0x10 => formatB w ops
  | 0x11 => formatR w ops (allTypes .vaddF32 .vaddF64 .vaddI32 .vaddI64)
  | 0x12 => formatR w ops (allTypes .vsubF32 .vsubF64 .vsubI32 .vsubI64)
  | 0x13 => formatR w ops (allTypes .vmulF32 .vmulF64 .vmulI32 .vmulI64)
  | 0x14 => formatR w ops (allTypes .vdivF32 .vdivF64 .vdivI32 .vdivI64)
  | 0x15 => formatR w ops (allTypes .vandF32 .vandF64 .vandI32 .vandI64)
  | 0x16 => formatR w ops (allTypes .vandnF32 .vandnF64 .vandnI32 .vandnI64)
  | 0x17 => formatR w ops (allTypes .vorF32 .vorF64 .vorI32 .vorI64)
  | 0x18 => formatR w ops (allTypes .vxorF32 .vxorF64 .vxorI32 .vxorI64)
  | 0x19 => formatR w ops (allTypes .vminF32 .vminF64 .vminI32 .vminI64)
  | 0x1A => formatR w ops (allTypes .vmaxF32 .vmaxF64 .vmaxI32 .vmaxI64)
  | 0x1B => formatR w ops (allTypes .vcmpeqF32 .vcmpeqF64 .vcmpeqI32 .vcmpeqI64)
  | 0x1C => formatR w ops (allTypes .vcmpgtF32 .vcmpgtF64 .vcmpgtI32 .vcmpgtI64)
  | 0x1D => formatR w ops (allTypes .vcmpltF32 .vcmpltF64 .vcmpltI32 .vcmpltI64)
  | 0x1E => formatR w ops (floatTypes .vteqF32 .vteqF64)
  | 0x1F => formatR w ops (floatTypes .vtgtF32 .vtgtF64)
  | 0x20 => formatR w ops (floatTypes .vtltF32 .vtltF64)
  | 0x21 => formatR4 w ops (allTypes .vselF32 .vselF64 .vselI32 .vselI64)
  | 0x22 => formatM w ops (allTypes .vlduF32 .vlduF64 .vlduI32 .vlduI64)
  | 0x23 => formatM w ops (allTypes .vstuF32 .vstuF64 .vstuI32 .vstuI64)
  | 0x24 => formatI w ops (allTypes .vshufF32 .vshufF64 .vshufI32 .vshufI64)
  | 0x28 => formatU w ops (onlyType .f32 .vcvtF32I32)
  | 0x29 => formatU w ops (onlyType .i32 .vcvttI32F32)
  | 0x2A => formatU w ops (onlyType .i32 .vcvtrI32F32)
  | 0x2B => formatU w ops (onlyType .f64 .vcvtF64I64)
  | 0x2C => formatU w ops (onlyType .i64 .vcvttI64F64)
  | 0x2D => formatU w ops (onlyType .i64 .vcvtrI64F64)
  | 0x2E => formatU w ops (onlyType .f32 .vcvtF32F64)
  | 0x2F => formatU w ops (onlyType .f64 .vcvtF64F32)
  | _ => .error .reservedOpcode

/-- The command a packet stands for, or why it stands for none (30_encoding.md R110 to R129). -/
def decode : Packet → Decoded
  | [] => .error .emptyPacket
  | w :: ops => decodeOp (field w 31 24) w ops

/-- Which port accepts an opcode of the map (30_encoding.md R125 "port", 60_exceptions.md R370). -/
def opAcceptedOn (port : Port) (op : Nat) : Bool :=
  if op = 0x00 then true
  else if op = 0x01 ∨ op = 0x02 ∨ op = 0x04 then decide (port = .c)
  else decide (port = .p)

/-- The port on which the host presents a packet for it to have its effect (R370); NOP goes to port P. -/
def homePort : Packet → Port
  | [] => .p
  | w :: _ => if opAcceptedOn .p (field w 31 24) then .p else .c

/-- `word0` from its fields (30_encoding.md R125: `op << 24 | et << 22 | vd << 16 | va << 12 | vb << 8 | low8`). -/
def word0 (op et vd va vb low8 : Nat) : Word :=
  BitVec.ofNat 32 (op * 2 ^ 24 + et * 2 ^ 22 + vd * 2 ^ 16 + va * 2 ^ 12 + vb * 2 ^ 8 + low8)

/-- Format R: three registers. -/
def wordsR (op : Nat) (t : ElemType) (vd va vb : VReg) : Packet :=
  [word0 op t.code vd.val va.val vb.val 0]

/-- Format R4: four registers. -/
def wordsR4 (op : Nat) (t : ElemType) (vd va vb vm : VReg) : Packet :=
  [word0 op t.code vd.val va.val vb.val (vm.val * 2 ^ 4)]

/-- Format I: two registers and an immediate. -/
def wordsI (op : Nat) (t : ElemType) (vd va vb : VReg) (imm8 : BitVec 8) : Packet :=
  [word0 op t.code vd.val va.val vb.val imm8.toNat]

/-- Format U: one source register. -/
def wordsU (op : Nat) (t : ElemType) (vd va : VReg) : Packet :=
  [word0 op t.code vd.val va.val 0 0]

/-- Format M: a register and an address. -/
def wordsM (op : Nat) (t : ElemType) (vd : VReg) (addr : Word) : Packet :=
  [word0 op t.code vd.val 0 0 0, addr]

/-- Format B with a 32-bit scalar. -/
def wordsB32 (t : ElemType) (vd : VReg) (s : Word) : Packet :=
  [word0 0x10 t.code vd.val 0 0 0, s]

/-- Format B with a 64-bit scalar, low word first. -/
def wordsB64 (t : ElemType) (vd : VReg) (s : Dword) : Packet :=
  [word0 0x10 t.code vd.val 0 0 0, s.extractLsb' 0 32, s.extractLsb' 32 32]

/-- The packet of a command (30_encoding.md R113 to R125). -/
def encode : Instr → Packet
  | .nop => [word0 0x00 0 0 0 0 0]
  | .config width block maxBlock =>
    [word0 0x01 0 0 0 0 (if width = .native then 0 else 1), maxBlock ++ block]
  | .loadimp explicit id off req chsel =>
    [word0 0x02 0 0 0 0 (if explicit then 1 else 0), id, off, req, chsel]
  | .process => [word0 0x03 0 0 0 0 0]
  | .clrdiag mask3 => [word0 0x04 0 0 0 0 mask3.toNat]
  | .wrfpm ftz => [word0 0x05 0 0 0 0 (if ftz then 1 else 0)]
  | .vbcastF32 vd s => wordsB32 .f32 vd s
  | .vbcastF64 vd s => wordsB64 .f64 vd s
  | .vbcastI32 vd s => wordsB32 .i32 vd s
  | .vbcastI64 vd s => wordsB64 .i64 vd s
  | .vaddF32 vd va vb => wordsR 0x11 .f32 vd va vb
  | .vaddF64 vd va vb => wordsR 0x11 .f64 vd va vb
  | .vaddI32 vd va vb => wordsR 0x11 .i32 vd va vb
  | .vaddI64 vd va vb => wordsR 0x11 .i64 vd va vb
  | .vsubF32 vd va vb => wordsR 0x12 .f32 vd va vb
  | .vsubF64 vd va vb => wordsR 0x12 .f64 vd va vb
  | .vsubI32 vd va vb => wordsR 0x12 .i32 vd va vb
  | .vsubI64 vd va vb => wordsR 0x12 .i64 vd va vb
  | .vmulF32 vd va vb => wordsR 0x13 .f32 vd va vb
  | .vmulF64 vd va vb => wordsR 0x13 .f64 vd va vb
  | .vmulI32 vd va vb => wordsR 0x13 .i32 vd va vb
  | .vmulI64 vd va vb => wordsR 0x13 .i64 vd va vb
  | .vdivF32 vd va vb => wordsR 0x14 .f32 vd va vb
  | .vdivF64 vd va vb => wordsR 0x14 .f64 vd va vb
  | .vdivI32 vd va vb => wordsR 0x14 .i32 vd va vb
  | .vdivI64 vd va vb => wordsR 0x14 .i64 vd va vb
  | .vandF32 vd va vb => wordsR 0x15 .f32 vd va vb
  | .vandF64 vd va vb => wordsR 0x15 .f64 vd va vb
  | .vandI32 vd va vb => wordsR 0x15 .i32 vd va vb
  | .vandI64 vd va vb => wordsR 0x15 .i64 vd va vb
  | .vandnF32 vd va vb => wordsR 0x16 .f32 vd va vb
  | .vandnF64 vd va vb => wordsR 0x16 .f64 vd va vb
  | .vandnI32 vd va vb => wordsR 0x16 .i32 vd va vb
  | .vandnI64 vd va vb => wordsR 0x16 .i64 vd va vb
  | .vorF32 vd va vb => wordsR 0x17 .f32 vd va vb
  | .vorF64 vd va vb => wordsR 0x17 .f64 vd va vb
  | .vorI32 vd va vb => wordsR 0x17 .i32 vd va vb
  | .vorI64 vd va vb => wordsR 0x17 .i64 vd va vb
  | .vxorF32 vd va vb => wordsR 0x18 .f32 vd va vb
  | .vxorF64 vd va vb => wordsR 0x18 .f64 vd va vb
  | .vxorI32 vd va vb => wordsR 0x18 .i32 vd va vb
  | .vxorI64 vd va vb => wordsR 0x18 .i64 vd va vb
  | .vminF32 vd va vb => wordsR 0x19 .f32 vd va vb
  | .vminF64 vd va vb => wordsR 0x19 .f64 vd va vb
  | .vminI32 vd va vb => wordsR 0x19 .i32 vd va vb
  | .vminI64 vd va vb => wordsR 0x19 .i64 vd va vb
  | .vmaxF32 vd va vb => wordsR 0x1A .f32 vd va vb
  | .vmaxF64 vd va vb => wordsR 0x1A .f64 vd va vb
  | .vmaxI32 vd va vb => wordsR 0x1A .i32 vd va vb
  | .vmaxI64 vd va vb => wordsR 0x1A .i64 vd va vb
  | .vcmpeqF32 vd va vb => wordsR 0x1B .f32 vd va vb
  | .vcmpeqF64 vd va vb => wordsR 0x1B .f64 vd va vb
  | .vcmpeqI32 vd va vb => wordsR 0x1B .i32 vd va vb
  | .vcmpeqI64 vd va vb => wordsR 0x1B .i64 vd va vb
  | .vcmpgtF32 vd va vb => wordsR 0x1C .f32 vd va vb
  | .vcmpgtF64 vd va vb => wordsR 0x1C .f64 vd va vb
  | .vcmpgtI32 vd va vb => wordsR 0x1C .i32 vd va vb
  | .vcmpgtI64 vd va vb => wordsR 0x1C .i64 vd va vb
  | .vcmpltF32 vd va vb => wordsR 0x1D .f32 vd va vb
  | .vcmpltF64 vd va vb => wordsR 0x1D .f64 vd va vb
  | .vcmpltI32 vd va vb => wordsR 0x1D .i32 vd va vb
  | .vcmpltI64 vd va vb => wordsR 0x1D .i64 vd va vb
  | .vteqF32 vd va vb => wordsR 0x1E .f32 vd va vb
  | .vteqF64 vd va vb => wordsR 0x1E .f64 vd va vb
  | .vtgtF32 vd va vb => wordsR 0x1F .f32 vd va vb
  | .vtgtF64 vd va vb => wordsR 0x1F .f64 vd va vb
  | .vtltF32 vd va vb => wordsR 0x20 .f32 vd va vb
  | .vtltF64 vd va vb => wordsR 0x20 .f64 vd va vb
  | .vselF32 vd va vb vm => wordsR4 0x21 .f32 vd va vb vm
  | .vselF64 vd va vb vm => wordsR4 0x21 .f64 vd va vb vm
  | .vselI32 vd va vb vm => wordsR4 0x21 .i32 vd va vb vm
  | .vselI64 vd va vb vm => wordsR4 0x21 .i64 vd va vb vm
  | .vlduF32 vd addr => wordsM 0x22 .f32 vd addr
  | .vlduF64 vd addr => wordsM 0x22 .f64 vd addr
  | .vlduI32 vd addr => wordsM 0x22 .i32 vd addr
  | .vlduI64 vd addr => wordsM 0x22 .i64 vd addr
  | .vstuF32 vd addr => wordsM 0x23 .f32 vd addr
  | .vstuF64 vd addr => wordsM 0x23 .f64 vd addr
  | .vstuI32 vd addr => wordsM 0x23 .i32 vd addr
  | .vstuI64 vd addr => wordsM 0x23 .i64 vd addr
  | .vshufF32 vd va vb imm8 => wordsI 0x24 .f32 vd va vb imm8
  | .vshufF64 vd va vb imm8 => wordsI 0x24 .f64 vd va vb imm8
  | .vshufI32 vd va vb imm8 => wordsI 0x24 .i32 vd va vb imm8
  | .vshufI64 vd va vb imm8 => wordsI 0x24 .i64 vd va vb imm8
  | .vcvtF32I32 vd va => wordsU 0x28 .f32 vd va
  | .vcvttI32F32 vd va => wordsU 0x29 .i32 vd va
  | .vcvtrI32F32 vd va => wordsU 0x2A .i32 vd va
  | .vcvtF64I64 vd va => wordsU 0x2B .f64 vd va
  | .vcvttI64F64 vd va => wordsU 0x2C .i64 vd va
  | .vcvtrI64F64 vd va => wordsU 0x2D .i64 vd va
  | .vcvtF32F64 vd va => wordsU 0x2E .f32 vd va
  | .vcvtF64F32 vd va => wordsU 0x2F .f64 vd va

/-- The packet of a row of the opcode table: bit 0 of `w` is the least significant bit of `word0`, each later
word's bits count on, and every bit from `nbits` on is 0.  Its length is the one `word0` asks for
(30_encoding.md R129; log 2). -/
def tablePacket (nbits w : Nat) : Packet :=
  let v := w % 2 ^ nbits
  (List.range (1 + operandWords (BitVec.ofNat 32 v))).map fun k => BitVec.ofNat 32 (v / 2 ^ (32 * k))

/-- The command the decoder reads from an instruction of the opcode table whose bits are `w`. -/
def decodeTableWord (nbits w : Nat) : Option Instr :=
  match decode (tablePacket nbits w) with
  | .ok i => some i
  | .error _ => none

end Sys2Proof
end

