-- ==== Sys2Proof/Machine/Flags.lean ====
section
/-! DEFINITION. What FIRE has in place of flags (10_state.md R23): the per-port error record, the sticky diagnostics, and the words the status registers read as.  No command has a condition code or a floating-point flag (60_exceptions.md R364). -/

namespace Sys2Proof.Machine

/-- The number of an error code (60_exceptions.md R351). -/
def ErrCode.code : ErrCode → BitVec 8
  | .ok => 0
  | .illegal => 1
  | .badConfig => 2
  | .notConfigured => 3
  | .addr => 4
  | .noSimd => 5
  | .port => 6

/-- Record a command's code in the `LASTERR` field of its port (60_exceptions.md R351). -/
def Status.record (st : Status) (port : Port) (e : ErrCode) : Status :=
  match port with
  | .c => { st with lastErrC := e }
  | .p => { st with lastErrP := e }

/-- The `LASTERR` field of a port (60_exceptions.md R351). -/
def Status.lastErr (st : Status) : Port → ErrCode
  | .c => st.lastErrC
  | .p => st.lastErrP

/-- `diag(SRC_SHORT)` (60_exceptions.md R360). -/
def Diag.setSrcShort (d : Diag) : Diag := { d with srcShort := true }

/-- `diag(SRC_INVALID)` (60_exceptions.md R360). -/
def Diag.setSrcInvalid (d : Diag) : Diag := { d with srcInvalid := true }

/-- `DIAG AND NOT mask3` (47_perform_dispatch.md R328). -/
def Diag.clear (d : Diag) (mask3 : BitVec 3) : Diag where
  allocFail := d.allocFail && !mask3.getLsbD 0
  srcShort := d.srcShort && !mask3.getLsbD 1
  srcInvalid := d.srcInvalid && !mask3.getLsbD 2

/-- The bit of the precision mode (10_state.md R43). -/
def widthBit : SampleWidth → BitVec 1
  | .native => 0
  | .hostDouble => 1

/-- `CSR.STATUS` as the host reads it (10_state.md R43). -/
def Status.word (st : Status) : Word :=
  (0 : BitVec 8) ++ st.lastErrC.code ++ st.lastErrP.code ++ (0 : BitVec 4) ++
    (widthBit st.width ++ BitVec.ofBool st.simdSel ++ BitVec.ofBool st.inert ++ BitVec.ofBool st.configured)

/-- `CSR.DIAG` as the host reads it (10_state.md R44). -/
def Diag.word (d : Diag) : Word :=
  (0 : BitVec 29) ++ (BitVec.ofBool d.srcInvalid ++ BitVec.ofBool d.srcShort ++ BitVec.ofBool d.allocFail)

/-- `CSR.ID` (10_state.md R41). -/
def csrId : Word := 0x46495245

/-- The `FAMILY` bit of `CSR.CAP` (10_state.md R42). -/
def familyBit : Config.Family → Bool
  | .a => false
  | .b => true

/-- `CSR.CAP` (10_state.md R42). -/
def capWord (params : Config.Params) : Word :=
  (0 : BitVec 30) ++ (BitVec.ofBool (familyBit params.family) ++ BitVec.ofBool params.simdPresent)

/-- `CsrRead(n)` (10_state.md R40 to R52); numbers 12 and above read as 0. -/
def csrValue (s : State) (n : Nat) : Word :=
  match n with
  | 0 => csrId
  | 1 => capWord s.params
  | 2 => s.status.word
  | 3 => s.diag.word
  | 4 => s.cfgBlock
  | 5 => s.cfgMaxBlock
  | 6 => s.impLen
  | 7 => s.impPadLen
  | 8 => s.inPos
  | 9 => s.winStart
  | 10 => s.winLen
  | 11 => (0 : BitVec 31) ++ BitVec.ofBool s.ftz
  | _ => 0

end Sys2Proof.Machine
end

