-- ==== Sys2Proof/Machine/Ops.lean ====
section
/-! DEFINITION. The named operations over memory and registers, and how a command ends: with its effect and an `OK` response, or refused (60_exceptions.md R350 to R352).  FIRE has no trap, so `refuse` is what taking an exception is on it, and there is nothing to return from (R363). -/

namespace Sys2Proof.Machine

open Sys2Proof.Config

/-- What executing a command answers. -/
abbrev Result := Host.Outcome State Fault Refusal

/-! ### Memory (20_memory.md) -/

/-- What an unlisted byte reads as: zero.  HIST and IMP are zero after reset (10_state.md R60); for INB and
OUTB, which the spec leaves unspecified, this is the model's choice (DESIGN CHOICE, unsafe: log 6). -/
def unlisted (_ : Nat) : Byte := 0

/-- The byte of the local data space at an address (20_memory.md R72). -/
def Memory.byte : Memory → Nat → Byte
  | [], a => unlisted a
  | (k, b) :: m, a => if k = a then b else Memory.byte m a

/-- Put a cell before the first one of a higher address. -/
def Memory.insert : Memory → Nat → Byte → Memory
  | [], a, b => [(a, b)]
  | (k, x) :: m, a, b => if a < k then (a, b) :: (k, x) :: m else (k, x) :: Memory.insert m a b

/-- Take an address's cells out. -/
def Memory.erase (m : Memory) (a : Nat) : Memory := m.filter fun c => c.1 != a

/-- Write one byte, keeping the canonical form.  No byte exists at an unmapped address, and no rule writes
one (20_memory.md R74, R79; log 15). -/
def Memory.setByte (m : Memory) (a : Nat) (b : Byte) : Memory :=
  if a < mapEnd then
    (if b = unlisted a then Memory.erase m a else Memory.insert (Memory.erase m a) a b)
  else m

/-- The canonical form: addresses strictly rising, mapped, and no cell that reads as an unlisted byte. -/
abbrev Memory.wf (m : Memory) : Prop :=
  m.Pairwise (fun c d => c.1 < d.1) ∧ ∀ c ∈ m, c.1 < mapEnd ∧ c.2 ≠ unlisted c.1

/-- `MemRead(a, 4)`, little-endian (20_memory.md R70, R72). -/
def Memory.read32 (m : Memory) (a : Nat) : Word :=
  m.byte (a + 3) ++ m.byte (a + 2) ++ m.byte (a + 1) ++ m.byte a

/-- `MemRead(a, 8)` (20_memory.md R72). -/
def Memory.read64 (m : Memory) (a : Nat) : Dword := m.read32 (a + 4) ++ m.read32 a

/-- `MemRead(a, 16)` (20_memory.md R71, R72). -/
def Memory.read128 (m : Memory) (a : Nat) : Vec := m.read64 (a + 8) ++ m.read64 a

/-- `MemWrite(a, 4, v)`, little-endian (20_memory.md R70, R72). -/
def Memory.write32 (m : Memory) (a : Nat) (v : Word) : Memory :=
  (((m.setByte a (v.extractLsb' 0 8)).setByte (a + 1) (v.extractLsb' 8 8)).setByte
    (a + 2) (v.extractLsb' 16 8)).setByte (a + 3) (v.extractLsb' 24 8)

/-- `MemWrite(a, 8, v)` (20_memory.md R72). -/
def Memory.write64 (m : Memory) (a : Nat) (v : Dword) : Memory :=
  (m.write32 a (v.extractLsb' 0 32)).write32 (a + 4) (v.extractLsb' 32 32)

/-- `MemWrite(a, 16, v)` (20_memory.md R71, R72). -/
def Memory.write128 (m : Memory) (a : Nat) (v : Vec) : Memory :=
  (m.write64 a (v.extractLsb' 0 64)).write64 (a + 8) (v.extractLsb' 64 64)

/-- Zero every byte of a region: the loop `for m: HIST[m] <- 0` of 47_perform_dispatch.md R322 and the loop
`for k: IMP[k] <- 0` of 44_impulse_loader.md R251, an unlisted byte being zero. -/
def Memory.zeroRegion (m : Memory) (r : Region) : Memory :=
  m.filter fun c => !(decide (r.base ≤ c.1) && decide (c.1 ≤ r.last))

/-- Write consecutive 32-bit samples from a byte address up. -/
def Memory.writeSamples : Memory → Nat → List Word → Memory
  | m, _, [] => m
  | m, a, x :: xs => Memory.writeSamples (m.write32 a x) (a + 4) xs

/-- Write consecutive 64-bit samples from a byte address up. -/
def Memory.writeSamples64 : Memory → Nat → List Dword → Memory
  | m, _, [] => m
  | m, a, x :: xs => Memory.writeSamples64 (m.write64 a x) (a + 8) xs

/-- `HIST[i]` (10_state.md R31). -/
def Memory.hist (m : Memory) (i : Nat) : Word := m.read32 (Region.hist.base + 4 * i)

/-- `IMP[i]` (10_state.md R32). -/
def Memory.imp (m : Memory) (i : Nat) : Word := m.read32 (Region.imp.base + 4 * i)

/-- `INB32[i]` (10_state.md R33). -/
def Memory.inb32 (m : Memory) (i : Nat) : Word := m.read32 (Region.inb.base + 4 * i)

/-- `INB64[i]` (10_state.md R33). -/
def Memory.inb64 (m : Memory) (i : Nat) : Dword := m.read64 (Region.inb.base + 8 * i)

/-- `OUTB32[i]` (10_state.md R34). -/
def Memory.outb32 (m : Memory) (i : Nat) : Word := m.read32 (Region.outb.base + 4 * i)

/-- `OUTB64[i]` (10_state.md R34). -/
def Memory.outb64 (m : Memory) (i : Nat) : Dword := m.read64 (Region.outb.base + 8 * i)

/-! ### Registers -/

/-- `V[r]` (10_state.md R24). -/
def State.reg (s : State) (r : VReg) : Vec := s.v[r]

/-- `V[r] <- x`, all 128 bits (10_state.md R24, R25). -/
def State.setReg (s : State) (r : VReg) (x : Vec) : State := { s with v := s.v.set r x }

/-- Replace the local data space. -/
def State.setMem (s : State) (m : Memory) : State := { s with mem := m }

/-- `CSR.FPMODE.FTZ <- z` (10_state.md R52). -/
def State.setFtz (s : State) (z : Bool) : State := { s with ftz := z }

/-- The drawn bits of a place in the command being executed (40_vec_arith.md R152; log 7). -/
def State.draw (s : State) (site : Nat) : Dword := nanDraw s.draws site

/-- The packets presented on a port and not yet executed, oldest first. -/
def State.queue (s : State) : Port → List Packet
  | .c => s.queueC
  | .p => s.queueP

/-- Replace a port's queue. -/
def State.setQueue (s : State) (port : Port) (q : List Packet) : State :=
  match port with
  | .c => { s with queueC := q }
  | .p => { s with queueP := q }

/-- Set what the step answers to the host. -/
def State.answer (s : State) (o : Output) : State := { s with output := o }

/-! ### How a command ends (60_exceptions.md R350 to R358) -/

/-- A command that had its effect: `OK` in the error record of its port, `Resp = (0, val)` (R350, R351). -/
def State.complete (s : State) (val : Word) : State :=
  { s with status := s.status.record s.port .ok, output := .response .ok val }

/-- The state `refuse(code)` leaves: only the error record of the issuing port changes, and the response is
`(code, 0)` (R352). -/
def State.refused (s : State) (e : ErrCode) : State :=
  { s with status := s.status.record s.port e, output := .response e 0 }

/-- `refuse(code)` (R352): a next state. -/
def refuse (e : ErrCode) (s : State) : Result := .next (s.refused e)

/-- The command's effect, and its `OK` response with value 0. -/
def done (s : State) : Result := .next (s.complete 0)

/-- A command only port `need` accepts (R354, R358 step 2, R370). -/
def onPort (need : Port) (s : State) (k : Result) : Result :=
  if s.port = need then k else refuse .port s

/-- A reserved field is nonzero (R353, R358 step 3). -/
def unlessMalformed (ok : Bool) (s : State) (k : Result) : Result :=
  if ok then k else refuse .illegal s

/-- A command of the vector unit (R356, R358 step 4). -/
def withSimd (s : State) (k : Result) : Result :=
  if s.params.simdPresent then k else refuse .noSimd s

/-- The template of every VectorOps command: port P, then the capability (40_vec_arith.md R150 (a), (b)). -/
def vectorCommand (s : State) (k : Result) : Result := onPort .p s (withSimd s k)

/-- A VectorOps command whose effect is one register write (40_vec_arith.md R150 (d), (h)). -/
def writesReg (s : State) (vd : VReg) (x : Vec) : Result := vectorCommand s (done (s.setReg vd x))

end Sys2Proof.Machine
end

