-- ==== Sys2Proof/Machine/Kernel.lean ====
section
/-! DEFINITION. ConvolutionKernel: the SIMD and the scalar evaluation of one output sample, in the exact orders of 46_convolution_kernel.md R293 to R295.

`z` is the flush-to-zero mode in force and `d` the drawn bits of the sample.  One draw serves all operations
of a sample: an operation with a NaN operand answers a newly drawn NaN whatever that operand's bits, so only
the last addition's draw is seen (log 7). -/

namespace Sys2Proof.Machine

open Sys2Proof.Config

/-- The HIST index of `win(i - L + 1 + j)`: `p + 4096 + i - L + 1 + j` (R290, 45_history_ring.md R277). -/
def windowIndex (p len i j : Nat) : Nat := p + histHalf + i + 1 + j - len

/-- The first taps of the SIMD registers in order: groups of 16 ascending, registers 0 to 3 ascending (R293). -/
def simdTaps (len : Nat) : List Nat :=
  (List.range (len / simdGroup)).flatMap fun g => (List.range 4).map fun r => simdGroup * g + 4 * r

/-- `vmul(hv, wv)` for the four taps from `t` (R293). -/
def simdProduct (m : Memory) (z : Bool) (d : Dword) (p len i t : Nat) : Vec :=
  map32 (fun _ => f32.mul z d) (gen32 fun k => m.imp (t + k)) (gen32 fun k => m.hist (windowIndex p len i t + k))

/-- The accumulator of output sample `i` (R293). -/
def simdAccumulate (m : Memory) (z : Bool) (d : Dword) (p len i : Nat) : Vec :=
  (simdTaps len).foldl (fun acc t => map32 (fun _ => f32.add z d) acc (simdProduct m z d p len i t)) (gen32 fun _ => 0)

/-- `hsum(acc)`: lanes ascending, left to right (R294). -/
def hsum (z : Bool) (d : Dword) (acc : Vec) : Word :=
  f32.add z d (f32.add z d (f32.add z d (lane 32 acc 0) (lane 32 acc 1)) (lane 32 acc 2)) (lane 32 acc 3)

/-- Output sample `i` of `KernelSIMD` (R293). -/
def simdSample (m : Memory) (z : Bool) (d : Dword) (p len i : Nat) : Word :=
  hsum z d (simdAccumulate m z d p len i)

/-- Output sample `i` of `KernelScalar`: one accumulator, taps ascending (R295). -/
def scalarSample (m : Memory) (z : Bool) (d : Dword) (p len i : Nat) : Word :=
  (List.range len).foldl
    (fun sum j => f32.add z d sum (f32.mul z d (m.imp j) (m.hist (windowIndex p len i j)))) 0

end Sys2Proof.Machine
end

