-- ==== Sys2Proof/Machine/Loader.lean ====
section
/-! DEFINITION. ImpulseLoader: what LOADIMP computes from its operands and the source directory (44_impulse_loader.md R250 to R264). -/

namespace Sys2Proof.Machine

open Sys2Proof.Config

/-- A source LOADIMP accepts: at least one channel, and binary32 samples (R252). -/
def usable (src : Source) : Bool := src.channels != 0 && src.format == 0

/-- The usable source of an identity, if there is one (R252). -/
def usableSource (dir : Directory) (id : Word) : Option Source := (sourceOf dir id).filter usable

/-- `want`: the requested length when one was given, else the whole source (R251, R253). -/
def wantedLength (explicit : Bool) (req : Word) (src : Source) : Nat :=
  if explicit then req.toNat else src.frames.toNat

/-- `Leff = max(0, min(avail, want, 2044))` with `avail = frames - off` (R253); natural subtraction clamps a
negative `avail` to 0. -/
def effectiveLength (explicit : Bool) (off req : Word) (src : Source) : Nat :=
  min (src.frames.toNat - off.toNat) (min (wantedLength explicit req src) impMaxLen)

/-- The short-source condition (R254): an explicit nonzero length above `frames - off`, before the cap. -/
def shortSource (explicit : Bool) (off req : Word) (src : Source) : Bool :=
  explicit && req != 0 && decide ((src.frames.toNat : Int) - off.toNat < req.toNat)

/-- `Lpad = 16 * ceil(Leff / 16)` (R256). -/
def paddedLength (n : Nat) : Nat := padQ * ((n + (padQ - 1)) / padQ)

/-- `c = (max(chsel, 1) - 1) mod channels` (R255). -/
def channelIndex (chsel : Word) (src : Source) : Nat := (max chsel.toNat 1 - 1) % src.channels.toNat

/-- The samples of the source, reversed: `s[Leff - 1 - i]` for `i` in `[0, Leff)` (R256). -/
def reversedSamples (src : Source) (off : Word) (len c : Nat) : List Word :=
  (List.range len).map fun i => sampleOf src (off.toNat + (len - 1 - i)) c

/-- IMP rewritten whole: zero, then the samples at the end of the padded region (R251, R256). -/
def Memory.installImpulse (m : Memory) (xs : List Word) : Memory :=
  (m.zeroRegion .imp).writeSamples (Region.imp.base + 4 * (paddedLength xs.length - xs.length)) xs

/-- IMP, `IMP_LEN` and `IMP_PADLEN` written together (R257). -/
def State.installImpulse (s : State) (xs : List Word) : State :=
  { s with
    mem := s.mem.installImpulse xs
    impLen := BitVec.ofNat 32 xs.length
    impPadLen := BitVec.ofNat 32 (paddedLength xs.length) }

/-- `DIAG` replaced. -/
def State.setDiag (s : State) (d : Diag) : State := { s with diag := d }

/-- The whole load of a usable source: the diagnostic, then the impulse (R251). -/
def loadFrom (explicit : Bool) (off req chsel : Word) (src : Source) (s : State) : State :=
  (s.setDiag (if shortSource explicit off req src then s.diag.setSrcShort else s.diag)).installImpulse
    (reversedSamples src off (effectiveLength explicit off req src) (channelIndex chsel src))

/-- The load of an unusable source: the diagnostic, and an impulse of length 0 (R252). -/
def loadNothing (s : State) : State := (s.setDiag s.diag.setSrcInvalid).installImpulse []

/-- LOADIMP on port C (R251): nothing on an inert instance (R258), else the load, answering `IMP_LEN`. -/
def loadImpulse (explicit : Bool) (id off req chsel : Word) (s : State) : State :=
  if s.status.inert then s.complete 0
  else
    match usableSource s.sources id with
    | none => (loadNothing s).complete 0
    | some src =>
      let t := loadFrom explicit off req chsel src s
      t.complete t.impLen

end Sys2Proof.Machine
end

