-- ==== Sys2Proof/Machine/Ring.lean ====
section
/-! DEFINITION. HistoryRing: the mirrored write, the cursor and the window descriptor (45_history_ring.md R270 to R281). -/

namespace Sys2Proof.Machine

open Sys2Proof.Config

/-- One sample of the mirrored write: to `HIST[q]` and to `HIST[q + 4096]` (R271). -/
def Memory.mirrorSample (m : Memory) (q : Nat) (x : Word) : Memory :=
  (m.write32 (Region.hist.base + 4 * q) x).write32 (Region.hist.base + 4 * (q + histHalf)) x

/-- The mirrored write from ring position `q` up (R271). -/
def Memory.mirrorWrite : List Word → Memory → Nat → Memory
  | [], m, _ => m
  | x :: xs, m, q => Memory.mirrorWrite xs (m.mirrorSample q x) (q + 1)

/-- The cursor after a block: 0 when it reaches or exceeds 4096 (R272). -/
def nextCursor (p b : Nat) : Nat := if p + b ≥ histHalf then 0 else p + b

/-- `Ingest(x)` (R271, R272, R275), `p` the cursor before it and `L` the padded impulse length. -/
def State.ingest (s : State) (xs : List Word) : State :=
  { s with
    mem := s.mem.mirrorWrite xs s.inPos.toNat
    inPos := BitVec.ofNat 32 (nextCursor s.inPos.toNat s.cfgBlock.toNat)
    winStart := BitVec.ofNat 32 (s.inPos.toNat + histHalf - s.impPadLen.toNat)
    winLen := BitVec.ofNat 32 (s.impPadLen.toNat + s.cfgBlock.toNat) }

end Sys2Proof.Machine
end

