-- ==== Sys2Proof/Machine/Engine.lean ====
section
/-! DEFINITION. The engine commands NOP, CONFIG, LOADIMP, PROCESS, CLRDIAG and WRFPM (47_perform_dispatch.md R320 to R334, 44_impulse_loader.md R251). -/

namespace Sys2Proof.Machine

open Sys2Proof.Config

/-- The checks (k1) to (k4) of CONFIG (R321). -/
def configOk (block maxBlock : Nat) : Bool :=
  decide (1 ≤ block) && decide (block ≤ maxBlock ∧ maxBlock % block = 0) && decide (histHalf % block = 0) &&
    decide (impCap + maxBlock < histHalf)

/-- The effect of a successful CONFIG (R322); an inert instance's HIST is not touched. -/
def State.configure (s : State) (width : SampleWidth) (block maxBlock : BitVec 16) : State :=
  { s with
    cfgBlock := block.setWidth 32
    cfgMaxBlock := maxBlock.setWidth 32
    status := { s.status with width := width, simdSel := s.params.simdPresent, configured := true }
    inPos := 0
    winStart := 0
    winLen := 0
    mem := if s.status.inert then s.mem else s.mem.zeroRegion .hist }

/-- Sample `i` of the input block: the word of INB, or the doubleword narrowed (R325, R327). -/
def State.inputSample (s : State) (i : Nat) : Word :=
  match s.status.width with
  | .native => s.mem.inb32 i
  | .hostDouble => narrow s.ftz (s.draw (3 * i)) (s.mem.inb64 i)

/-- The input block `x[0..B)` (R325). -/
def State.inputBlock (s : State) : List Word := (List.range s.cfgBlock.toNat).map s.inputSample

/-- Output sample `i` of the selected kernel; `p` is the cursor before Ingest (46_convolution_kernel.md R296). -/
def State.kernelSample (s : State) (p i : Nat) : Word :=
  if s.status.simdSel then simdSample s.mem s.ftz (s.draw (3 * i + 1)) p s.impPadLen.toNat i
  else scalarSample s.mem s.ftz (s.draw (3 * i + 1)) p s.impPadLen.toNat i

/-- The output block `y[0..B)` (R325). -/
def State.kernelBlock (s : State) (p : Nat) : List Word := (List.range s.cfgBlock.toNat).map (s.kernelSample p)

/-- Write an output block at the configured width, widening on the host-double path (R325, R327). -/
def State.writeOutput (s : State) (ys : List Word) : State :=
  match s.status.width with
  | .native => s.setMem (s.mem.writeSamples Region.outb.base ys)
  | .hostDouble => s.setMem (s.mem.writeSamples64 Region.outb.base (ys.mapIdx fun i y => widen (s.draw (3 * i + 2)) y))

/-- The zeroed block of an inert instance (R332). -/
def State.writeSilence (s : State) : State :=
  match s.status.width with
  | .native => s.setMem (s.mem.writeSamples Region.outb.base (List.replicate s.cfgBlock.toNat 0))
  | .hostDouble => s.setMem (s.mem.writeSamples64 Region.outb.base (List.replicate s.cfgBlock.toNat 0))

/-- One block on an instance that is not inert: read the input, Ingest, convolve, write the output (R325). -/
def State.convolveBlock (s : State) : State :=
  let t := s.ingest s.inputBlock
  t.writeOutput (t.kernelBlock s.inPos.toNat)

/-- The block of either path (R325). -/
def State.runBlock (s : State) : State := if s.status.inert then s.writeSilence else s.convolveBlock

/-- The scoped numeric mode (R326): save FTZ, set it, run, and restore it on every path. -/
def State.withFlush (s : State) (body : State → State) : State := (body (s.setFtz true)).setFtz s.ftz

/-- The effect of PROCESS (R325). -/
def State.processBlock (s : State) : State := s.withFlush State.runBlock

/-- `NOP`: accepted on both ports, no effect but the error record (R320). -/
def execNop (s : State) : Result := done s

/-- `CONFIG`: the four checks, then the effect (R321, R322). -/
def execConfig (width : SampleWidth) (block maxBlock : BitVec 16) (s : State) : Result :=
  onPort .c s
    (if configOk block.toNat maxBlock.toNat then done (s.configure width block maxBlock) else refuse .badConfig s)

/-- `LOADIMP` (44_impulse_loader.md R251): no operand value is an error. -/
def execLoadimp (explicit : Bool) (id off req chsel : Word) (s : State) : Result :=
  onPort .c s (.next (loadImpulse explicit id off req chsel s))

/-- `PROCESS`: refused before the first CONFIG, else one block (R325). -/
def execProcess (s : State) : Result :=
  onPort .p s (if s.status.configured then done s.processBlock else refuse .notConfigured s)

/-- `CLRDIAG`: clear the selected sticky bits (R328). -/
def execClrdiag (mask3 : BitVec 3) (s : State) : Result := onPort .c s (done (s.setDiag (s.diag.clear mask3)))

/-- `WRFPM`: set the ambient numeric mode (R329); it needs neither the capability nor a configuration. -/
def execWrfpm (z : Bool) (s : State) : Result := onPort .p s (done (s.setFtz z))

end Sys2Proof.Machine
end

