-- ==== Sys2Proof/Machine/VecArith.lean ====
section
/-! DEFINITION. VectorOps broadcast and arithmetic (40_vec_arith.md R150 to R168). -/

namespace Sys2Proof.Machine

/-- `VBCAST.F32`: the pattern `x` in every lane, copied and not converted or flushed (40_vec_arith.md R160). -/
def execVbcastF32 (vd : VReg) (x : Word) (s : State) : Result :=
  writesReg s vd (gen32 fun _ => x)

/-- `VBCAST.F64`: the pattern `x` in every lane, copied and not converted or flushed (40_vec_arith.md R160). -/
def execVbcastF64 (vd : VReg) (x : Dword) (s : State) : Result :=
  writesReg s vd (gen64 fun _ => x)

/-- `VBCAST.I32`: the pattern `x` in every lane, copied and not converted or flushed (40_vec_arith.md R160). -/
def execVbcastI32 (vd : VReg) (x : Word) (s : State) : Result :=
  writesReg s vd (gen32 fun _ => x)

/-- `VBCAST.I64`: the pattern `x` in every lane, copied and not converted or flushed (40_vec_arith.md R160). -/
def execVbcastI64 (vd : VReg) (x : Dword) (s : State) : Result :=
  writesReg s vd (gen64 fun _ => x)

/-- `VADD.F32`: `fadd_32` of each lane under the ambient flush-to-zero mode (40_vec_arith.md R161, R152, R153). -/
def execVaddF32 (vd va vb : VReg) (s : State) : Result :=
  writesReg s vd (map32 (fun k => f32.add s.ftz (s.draw k)) (s.reg va) (s.reg vb))

/-- `VADD.F64`: `fadd_64` of each lane under the ambient flush-to-zero mode (40_vec_arith.md R161, R152, R153). -/
def execVaddF64 (vd va vb : VReg) (s : State) : Result :=
  writesReg s vd (map64 (fun k => f64.add s.ftz (s.draw k)) (s.reg va) (s.reg vb))

/-- `VADD.I32`: wrapping sum of each 32-bit lane (40_vec_arith.md R162, R156). -/
def execVaddI32 (vd va vb : VReg) (s : State) : Result :=
  writesReg s vd (map32 (fun _ a b => a + b) (s.reg va) (s.reg vb))

/-- `VADD.I64`: wrapping sum of each 64-bit lane (40_vec_arith.md R162, R156). -/
def execVaddI64 (vd va vb : VReg) (s : State) : Result :=
  writesReg s vd (map64 (fun _ a b => a + b) (s.reg va) (s.reg vb))

/-- `VSUB.F32`: `fsub_32` of each lane under the ambient flush-to-zero mode (40_vec_arith.md R163, R152, R153). -/
def execVsubF32 (vd va vb : VReg) (s : State) : Result :=
  writesReg s vd (map32 (fun k => f32.sub s.ftz (s.draw k)) (s.reg va) (s.reg vb))

/-- `VSUB.F64`: `fsub_64` of each lane under the ambient flush-to-zero mode (40_vec_arith.md R163, R152, R153). -/
def execVsubF64 (vd va vb : VReg) (s : State) : Result :=
  writesReg s vd (map64 (fun k => f64.sub s.ftz (s.draw k)) (s.reg va) (s.reg vb))

/-- `VSUB.I32`: wrapping difference, first minus second of each 32-bit lane (40_vec_arith.md R164, R156). -/
def execVsubI32 (vd va vb : VReg) (s : State) : Result :=
  writesReg s vd (map32 (fun _ a b => a - b) (s.reg va) (s.reg vb))

/-- `VSUB.I64`: wrapping difference, first minus second of each 64-bit lane (40_vec_arith.md R164, R156). -/
def execVsubI64 (vd va vb : VReg) (s : State) : Result :=
  writesReg s vd (map64 (fun _ a b => a - b) (s.reg va) (s.reg vb))

/-- `VMUL.F32`: `fmul_32` of each lane under the ambient flush-to-zero mode (40_vec_arith.md R165, R152, R153). -/
def execVmulF32 (vd va vb : VReg) (s : State) : Result :=
  writesReg s vd (map32 (fun k => f32.mul s.ftz (s.draw k)) (s.reg va) (s.reg vb))

/-- `VMUL.F64`: `fmul_64` of each lane under the ambient flush-to-zero mode (40_vec_arith.md R165, R152, R153). -/
def execVmulF64 (vd va vb : VReg) (s : State) : Result :=
  writesReg s vd (map64 (fun k => f64.mul s.ftz (s.draw k)) (s.reg va) (s.reg vb))

/-- `VMUL.I32`: low bits of the product of each 32-bit lane (40_vec_arith.md R166, R156). -/
def execVmulI32 (vd va vb : VReg) (s : State) : Result :=
  writesReg s vd (map32 (fun _ a b => a * b) (s.reg va) (s.reg vb))

/-- `VMUL.I64`: low bits of the product of each 64-bit lane (40_vec_arith.md R166, R156). -/
def execVmulI64 (vd va vb : VReg) (s : State) : Result :=
  writesReg s vd (map64 (fun _ a b => a * b) (s.reg va) (s.reg vb))

/-- `VDIV.F32`: `fdiv_32` of each lane under the ambient flush-to-zero mode (40_vec_arith.md R167, R152, R153). -/
def execVdivF32 (vd va vb : VReg) (s : State) : Result :=
  writesReg s vd (map32 (fun k => f32.div s.ftz (s.draw k)) (s.reg va) (s.reg vb))

/-- `VDIV.F64`: `fdiv_64` of each lane under the ambient flush-to-zero mode (40_vec_arith.md R167, R152, R153). -/
def execVdivF64 (vd va vb : VReg) (s : State) : Result :=
  writesReg s vd (map64 (fun k => f64.div s.ftz (s.draw k)) (s.reg va) (s.reg vb))

/-- `VDIV.I32`: signed quotient truncated toward zero, all ones for a zero divisor of each 32-bit lane (40_vec_arith.md R168, R156). -/
def execVdivI32 (vd va vb : VReg) (s : State) : Result :=
  writesReg s vd (map32 (fun _ a b => intDiv a b) (s.reg va) (s.reg vb))

/-- `VDIV.I64`: signed quotient truncated toward zero, all ones for a zero divisor of each 64-bit lane (40_vec_arith.md R168, R156). -/
def execVdivI64 (vd va vb : VReg) (s : State) : Result :=
  writesReg s vd (map64 (fun _ a b => intDiv a b) (s.reg va) (s.reg vb))

end Sys2Proof.Machine
end

