-- ==== Sys2Proof/Machine/VecCompare.lean ====
section
/-! DEFINITION. VectorOps compares and select (42_vec_compare_select.md R200 to R213). -/

namespace Sys2Proof.Machine

/-- `VCMPEQ.F32`: a mask lane for each lane of the comparison (42_vec_compare_select.md R201, R200, R210). -/
def execVcmpeqF32 (vd va vb : VReg) (s : State) : Result :=
  writesReg s vd (map32 (fun _ a b => maskLane 32 (f32.eq a b)) (s.reg va) (s.reg vb))

/-- `VCMPEQ.F64`: a mask lane for each lane of the comparison (42_vec_compare_select.md R201, R200, R210). -/
def execVcmpeqF64 (vd va vb : VReg) (s : State) : Result :=
  writesReg s vd (map64 (fun _ a b => maskLane 64 (f64.eq a b)) (s.reg va) (s.reg vb))

/-- `VCMPEQ.I32`: a mask lane for each lane of the comparison (42_vec_compare_select.md R202, R200, R210). -/
def execVcmpeqI32 (vd va vb : VReg) (s : State) : Result :=
  writesReg s vd (map32 (fun _ a b => maskLane 32 (intEq a b)) (s.reg va) (s.reg vb))

/-- `VCMPEQ.I64`: a mask lane for each lane of the comparison (42_vec_compare_select.md R202, R200, R210). -/
def execVcmpeqI64 (vd va vb : VReg) (s : State) : Result :=
  writesReg s vd (map64 (fun _ a b => maskLane 64 (intEq a b)) (s.reg va) (s.reg vb))

/-- `VCMPGT.F32`: a mask lane for each lane of the comparison (42_vec_compare_select.md R203, R200, R210). -/
def execVcmpgtF32 (vd va vb : VReg) (s : State) : Result :=
  writesReg s vd (map32 (fun _ a b => maskLane 32 (f32.gt a b)) (s.reg va) (s.reg vb))

/-- `VCMPGT.F64`: a mask lane for each lane of the comparison (42_vec_compare_select.md R203, R200, R210). -/
def execVcmpgtF64 (vd va vb : VReg) (s : State) : Result :=
  writesReg s vd (map64 (fun _ a b => maskLane 64 (f64.gt a b)) (s.reg va) (s.reg vb))

/-- `VCMPGT.I32`: a mask lane for each lane of the comparison (42_vec_compare_select.md R204, R200, R210). -/
def execVcmpgtI32 (vd va vb : VReg) (s : State) : Result :=
  writesReg s vd (map32 (fun _ a b => maskLane 32 (intGt a b)) (s.reg va) (s.reg vb))

/-- `VCMPGT.I64`: a mask lane for each lane of the comparison (42_vec_compare_select.md R204, R200, R210). -/
def execVcmpgtI64 (vd va vb : VReg) (s : State) : Result :=
  writesReg s vd (map64 (fun _ a b => maskLane 64 (intGt a b)) (s.reg va) (s.reg vb))

/-- `VCMPLT.F32`: a mask lane for each lane of the comparison (42_vec_compare_select.md R205, R200, R210). -/
def execVcmpltF32 (vd va vb : VReg) (s : State) : Result :=
  writesReg s vd (map32 (fun _ a b => maskLane 32 (f32.lt a b)) (s.reg va) (s.reg vb))

/-- `VCMPLT.F64`: a mask lane for each lane of the comparison (42_vec_compare_select.md R205, R200, R210). -/
def execVcmpltF64 (vd va vb : VReg) (s : State) : Result :=
  writesReg s vd (map64 (fun _ a b => maskLane 64 (f64.lt a b)) (s.reg va) (s.reg vb))

/-- `VCMPLT.I32`: a mask lane for each lane of the comparison (42_vec_compare_select.md R206, R200, R210). -/
def execVcmpltI32 (vd va vb : VReg) (s : State) : Result :=
  writesReg s vd (map32 (fun _ a b => maskLane 32 (intLt a b)) (s.reg va) (s.reg vb))

/-- `VCMPLT.I64`: a mask lane for each lane of the comparison (42_vec_compare_select.md R206, R200, R210). -/
def execVcmpltI64 (vd va vb : VReg) (s : State) : Result :=
  writesReg s vd (map64 (fun _ a b => maskLane 64 (intLt a b)) (s.reg va) (s.reg vb))

/-- `VTEQ.F32`: 1.0 or +0.0 for each lane of the comparison (42_vec_compare_select.md R207, R200). -/
def execVteqF32 (vd va vb : VReg) (s : State) : Result :=
  writesReg s vd (map32 (fun _ a b => f32.truth (f32.eq a b)) (s.reg va) (s.reg vb))

/-- `VTEQ.F64`: 1.0 or +0.0 for each lane of the comparison (42_vec_compare_select.md R207, R200). -/
def execVteqF64 (vd va vb : VReg) (s : State) : Result :=
  writesReg s vd (map64 (fun _ a b => f64.truth (f64.eq a b)) (s.reg va) (s.reg vb))

/-- `VTGT.F32`: 1.0 or +0.0 for each lane of the comparison (42_vec_compare_select.md R208, R200). -/
def execVtgtF32 (vd va vb : VReg) (s : State) : Result :=
  writesReg s vd (map32 (fun _ a b => f32.truth (f32.gt a b)) (s.reg va) (s.reg vb))

/-- `VTGT.F64`: 1.0 or +0.0 for each lane of the comparison (42_vec_compare_select.md R208, R200). -/
def execVtgtF64 (vd va vb : VReg) (s : State) : Result :=
  writesReg s vd (map64 (fun _ a b => f64.truth (f64.gt a b)) (s.reg va) (s.reg vb))

/-- `VTLT.F32`: 1.0 or +0.0 for each lane of the comparison (42_vec_compare_select.md R209, R200). -/
def execVtltF32 (vd va vb : VReg) (s : State) : Result :=
  writesReg s vd (map32 (fun _ a b => f32.truth (f32.lt a b)) (s.reg va) (s.reg vb))

/-- `VTLT.F64`: 1.0 or +0.0 for each lane of the comparison (42_vec_compare_select.md R209, R200). -/
def execVtltF64 (vd va vb : VReg) (s : State) : Result :=
  writesReg s vd (map64 (fun _ a b => f64.truth (f64.lt a b)) (s.reg va) (s.reg vb))

/-- `VSEL.F32`: each bit of the second source where the mask bit is 1, of the first where it is 0 (42_vec_compare_select.md R211, R213). -/
def execVselF32 (vd va vb vm : VReg) (s : State) : Result :=
  writesReg s vd ((s.reg vm &&& s.reg vb) ||| (~~~(s.reg vm) &&& s.reg va))

/-- `VSEL.F64`: each bit of the second source where the mask bit is 1, of the first where it is 0 (42_vec_compare_select.md R211, R213). -/
def execVselF64 (vd va vb vm : VReg) (s : State) : Result :=
  writesReg s vd ((s.reg vm &&& s.reg vb) ||| (~~~(s.reg vm) &&& s.reg va))

/-- `VSEL.I32`: each bit of the second source where the mask bit is 1, of the first where it is 0 (42_vec_compare_select.md R211, R213). -/
def execVselI32 (vd va vb vm : VReg) (s : State) : Result :=
  writesReg s vd ((s.reg vm &&& s.reg vb) ||| (~~~(s.reg vm) &&& s.reg va))

/-- `VSEL.I64`: each bit of the second source where the mask bit is 1, of the first where it is 0 (42_vec_compare_select.md R211, R213). -/
def execVselI64 (vd va vb vm : VReg) (s : State) : Result :=
  writesReg s vd ((s.reg vm &&& s.reg vb) ||| (~~~(s.reg vm) &&& s.reg va))

end Sys2Proof.Machine
end

