-- ==== Sys2Proof/Machine/VecConvert.lean ====
section
/-! DEFINITION. VectorOps conversions (43_vec_mem_shuffle_convert.md R230 to R238). -/

namespace Sys2Proof.Machine

/-- `VCVT.F32.I32`: four signed integers to binary32, round to nearest even (43_vec_mem_shuffle_convert.md R231, R230). -/
def execVcvtF32I32 (vd va : VReg) (s : State) : Result :=
  writesReg s vd (gen32 fun k => f32.ofInt (lane 32 (s.reg va) k).toInt)

/-- `VCVTT.I32.F32`: four binary32 to signed integers, truncating and saturating (43_vec_mem_shuffle_convert.md R232, R230). -/
def execVcvttI32F32 (vd va : VReg) (s : State) : Result :=
  writesReg s vd (gen32 fun k => f32.toIntTrunc (lane 32 (s.reg va) k))

/-- `VCVTR.I32.F32`: four binary32 to signed integers, rounding to nearest even and saturating (43_vec_mem_shuffle_convert.md R233, R230). -/
def execVcvtrI32F32 (vd va : VReg) (s : State) : Result :=
  writesReg s vd (gen32 fun k => f32.toIntNearest (lane 32 (s.reg va) k))

/-- `VCVT.F64.I64`: two signed integers to binary64, round to nearest even (43_vec_mem_shuffle_convert.md R234, R230). -/
def execVcvtF64I64 (vd va : VReg) (s : State) : Result :=
  writesReg s vd (gen64 fun k => f64.ofInt (lane 64 (s.reg va) k).toInt)

/-- `VCVTT.I64.F64`: two binary64 to signed integers, truncating and saturating (43_vec_mem_shuffle_convert.md R235, R230). -/
def execVcvttI64F64 (vd va : VReg) (s : State) : Result :=
  writesReg s vd (gen64 fun k => f64.toIntTrunc (lane 64 (s.reg va) k))

/-- `VCVTR.I64.F64`: two binary64 to signed integers, rounding to nearest even and saturating (43_vec_mem_shuffle_convert.md R236, R230). -/
def execVcvtrI64F64 (vd va : VReg) (s : State) : Result :=
  writesReg s vd (gen64 fun k => f64.toIntNearest (lane 64 (s.reg va) k))

/-- `VCVT.F32.F64`: two binary64 narrowed into the two low lanes under the ambient flush-to-zero mode, the two high lanes +0.0 (43_vec_mem_shuffle_convert.md R237, R230). -/
def execVcvtF32F64 (vd va : VReg) (s : State) : Result :=
  writesReg s vd (vec32 (narrow s.ftz (s.draw 0) (lane 64 (s.reg va) 0)) (narrow s.ftz (s.draw 1) (lane 64 (s.reg va) 1)) 0 0)

/-- `VCVT.F64.F32`: the two low binary32 lanes widened exactly, never flushed (43_vec_mem_shuffle_convert.md R238, R230). -/
def execVcvtF64F32 (vd va : VReg) (s : State) : Result :=
  writesReg s vd (gen64 fun k => widen (s.draw k) (lane 32 (s.reg va) k))

end Sys2Proof.Machine
end

