-- ==== Sys2Proof/Machine/VecLogic.lean ====
section
/-! DEFINITION. VectorOps bitwise logic, minimum and maximum (41_vec_logic_minmax.md R180 to R190). -/

namespace Sys2Proof.Machine

/-- `VAND.F32`: bitwise and of all 128 bits, whatever the element type (41_vec_logic_minmax.md R181, R180). -/
def execVandF32 (vd va vb : VReg) (s : State) : Result :=
  writesReg s vd (s.reg va &&& s.reg vb)

/-- `VAND.F64`: bitwise and of all 128 bits, whatever the element type (41_vec_logic_minmax.md R181, R180). -/
def execVandF64 (vd va vb : VReg) (s : State) : Result :=
  writesReg s vd (s.reg va &&& s.reg vb)

/-- `VAND.I32`: bitwise and of all 128 bits, whatever the element type (41_vec_logic_minmax.md R181, R180). -/
def execVandI32 (vd va vb : VReg) (s : State) : Result :=
  writesReg s vd (s.reg va &&& s.reg vb)

/-- `VAND.I64`: bitwise and of all 128 bits, whatever the element type (41_vec_logic_minmax.md R181, R180). -/
def execVandI64 (vd va vb : VReg) (s : State) : Result :=
  writesReg s vd (s.reg va &&& s.reg vb)

/-- `VANDN.F32`: bitwise and of the complemented first source and the second of all 128 bits, whatever the element type (41_vec_logic_minmax.md R182, R180). -/
def execVandnF32 (vd va vb : VReg) (s : State) : Result :=
  writesReg s vd (~~~(s.reg va) &&& s.reg vb)

/-- `VANDN.F64`: bitwise and of the complemented first source and the second of all 128 bits, whatever the element type (41_vec_logic_minmax.md R182, R180). -/
def execVandnF64 (vd va vb : VReg) (s : State) : Result :=
  writesReg s vd (~~~(s.reg va) &&& s.reg vb)

/-- `VANDN.I32`: bitwise and of the complemented first source and the second of all 128 bits, whatever the element type (41_vec_logic_minmax.md R182, R180). -/
def execVandnI32 (vd va vb : VReg) (s : State) : Result :=
  writesReg s vd (~~~(s.reg va) &&& s.reg vb)

/-- `VANDN.I64`: bitwise and of the complemented first source and the second of all 128 bits, whatever the element type (41_vec_logic_minmax.md R182, R180). -/
def execVandnI64 (vd va vb : VReg) (s : State) : Result :=
  writesReg s vd (~~~(s.reg va) &&& s.reg vb)

/-- `VOR.F32`: bitwise or of all 128 bits, whatever the element type (41_vec_logic_minmax.md R183, R180). -/
def execVorF32 (vd va vb : VReg) (s : State) : Result :=
  writesReg s vd (s.reg va ||| s.reg vb)

/-- `VOR.F64`: bitwise or of all 128 bits, whatever the element type (41_vec_logic_minmax.md R183, R180). -/
def execVorF64 (vd va vb : VReg) (s : State) : Result :=
  writesReg s vd (s.reg va ||| s.reg vb)

/-- `VOR.I32`: bitwise or of all 128 bits, whatever the element type (41_vec_logic_minmax.md R183, R180). -/
def execVorI32 (vd va vb : VReg) (s : State) : Result :=
  writesReg s vd (s.reg va ||| s.reg vb)

/-- `VOR.I64`: bitwise or of all 128 bits, whatever the element type (41_vec_logic_minmax.md R183, R180). -/
def execVorI64 (vd va vb : VReg) (s : State) : Result :=
  writesReg s vd (s.reg va ||| s.reg vb)

/-- `VXOR.F32`: bitwise exclusive or of all 128 bits, whatever the element type (41_vec_logic_minmax.md R184, R180). -/
def execVxorF32 (vd va vb : VReg) (s : State) : Result :=
  writesReg s vd (s.reg va ^^^ s.reg vb)

/-- `VXOR.F64`: bitwise exclusive or of all 128 bits, whatever the element type (41_vec_logic_minmax.md R184, R180). -/
def execVxorF64 (vd va vb : VReg) (s : State) : Result :=
  writesReg s vd (s.reg va ^^^ s.reg vb)

/-- `VXOR.I32`: bitwise exclusive or of all 128 bits, whatever the element type (41_vec_logic_minmax.md R184, R180). -/
def execVxorI32 (vd va vb : VReg) (s : State) : Result :=
  writesReg s vd (s.reg va ^^^ s.reg vb)

/-- `VXOR.I64`: bitwise exclusive or of all 128 bits, whatever the element type (41_vec_logic_minmax.md R184, R180). -/
def execVxorI64 (vd va vb : VReg) (s : State) : Result :=
  writesReg s vd (s.reg va ^^^ s.reg vb)

/-- `VMIN.F32`: in each lane the first source when it compares less than the second, else the second (41_vec_logic_minmax.md R186, R185). -/
def execVminF32 (vd va vb : VReg) (s : State) : Result :=
  writesReg s vd (map32 (fun _ => pick f32.lt) (s.reg va) (s.reg vb))

/-- `VMIN.F64`: in each lane the first source when it compares less than the second, else the second (41_vec_logic_minmax.md R186, R185). -/
def execVminF64 (vd va vb : VReg) (s : State) : Result :=
  writesReg s vd (map64 (fun _ => pick f64.lt) (s.reg va) (s.reg vb))

/-- `VMIN.I32`: in each lane the first source when it compares less than the second, else the second (41_vec_logic_minmax.md R187, R185). -/
def execVminI32 (vd va vb : VReg) (s : State) : Result :=
  writesReg s vd (map32 (fun _ => pick intLt) (s.reg va) (s.reg vb))

/-- `VMIN.I64`: in each lane the first source when it compares less than the second, else the second (41_vec_logic_minmax.md R187, R185). -/
def execVminI64 (vd va vb : VReg) (s : State) : Result :=
  writesReg s vd (map64 (fun _ => pick intLt) (s.reg va) (s.reg vb))

/-- `VMAX.F32`: in each lane the first source when it compares greater than the second, else the second (41_vec_logic_minmax.md R188, R185). -/
def execVmaxF32 (vd va vb : VReg) (s : State) : Result :=
  writesReg s vd (map32 (fun _ => pick f32.gt) (s.reg va) (s.reg vb))

/-- `VMAX.F64`: in each lane the first source when it compares greater than the second, else the second (41_vec_logic_minmax.md R188, R185). -/
def execVmaxF64 (vd va vb : VReg) (s : State) : Result :=
  writesReg s vd (map64 (fun _ => pick f64.gt) (s.reg va) (s.reg vb))

/-- `VMAX.I32`: in each lane the first source when it compares greater than the second, else the second (41_vec_logic_minmax.md R189, R185). -/
def execVmaxI32 (vd va vb : VReg) (s : State) : Result :=
  writesReg s vd (map32 (fun _ => pick intGt) (s.reg va) (s.reg vb))

/-- `VMAX.I64`: in each lane the first source when it compares greater than the second, else the second (41_vec_logic_minmax.md R189, R185). -/
def execVmaxI64 (vd va vb : VReg) (s : State) : Result :=
  writesReg s vd (map64 (fun _ => pick intGt) (s.reg va) (s.reg vb))

end Sys2Proof.Machine
end

