-- ==== Sys2Proof/Machine/VecMem.lean ====
section
/-! DEFINITION. VectorOps unaligned load and store, and shuffle (43_vec_mem_shuffle_convert.md R220 to R227). -/

namespace Sys2Proof.Machine

/-- The load shared by the four VLDU: `ERR_ADDR` unless the 16 bytes lie in one region (R222). -/
def loadVec (vd : VReg) (a : Nat) (s : State) : Result :=
  vectorCommand s (if loadable a then done (s.setReg vd (s.mem.read128 a)) else refuse .addr s)

/-- The store shared by the four VSTU: `ERR_ADDR` unless the 16 bytes lie in INB or in OUTB (R223). -/
def storeVec (vs : VReg) (a : Nat) (s : State) : Result :=
  vectorCommand s (if storable a then done (s.setMem (s.mem.write128 a (s.reg vs))) else refuse .addr s)

/-- The 2-bit selector of result lane `k` of a 32-bit shuffle (R226). -/
def selector32 (imm8 : BitVec 8) (k : Nat) : Nat := (imm8.extractLsb' (2 * k) 2).toNat

/-- The 32-bit shuffle (R226). -/
def shuffle32 (imm8 : BitVec 8) (a b : Vec) : Vec :=
  vec32 (lane 32 a (selector32 imm8 0)) (lane 32 a (selector32 imm8 1))
    (lane 32 b (selector32 imm8 2)) (lane 32 b (selector32 imm8 3))

/-- The 1-bit selector of result lane `k` of a 64-bit shuffle (R227). -/
def selector64 (imm8 : BitVec 8) (k : Nat) : Nat := (imm8.extractLsb' k 1).toNat

/-- The 64-bit shuffle (R227). -/
def shuffle64 (imm8 : BitVec 8) (a b : Vec) : Vec :=
  vec64 (lane 64 a (selector64 imm8 0)) (lane 64 b (selector64 imm8 1))

/-- The 64-bit shuffle as a command: a selector whose bits 7:2 are not zero is `ERR_ILLEGAL`, after the port
check and before the capability check (R227, 60_exceptions.md R358). -/
def shuffleCommand64 (vd va vb : VReg) (imm8 : BitVec 8) (s : State) : Result :=
  onPort .p s (unlessMalformed (shuffleImm64Ok imm8) s
    (withSimd s (done (s.setReg vd (shuffle64 imm8 (s.reg va) (s.reg vb))))))

/-- `VLDU.F32`: the 16 bytes at `addr`, whatever the element type (43_vec_mem_shuffle_convert.md R222). -/
def execVlduF32 (vd : VReg) (addr : Word) (s : State) : Result :=
  loadVec vd addr.toNat s

/-- `VLDU.F64`: the 16 bytes at `addr`, whatever the element type (43_vec_mem_shuffle_convert.md R222). -/
def execVlduF64 (vd : VReg) (addr : Word) (s : State) : Result :=
  loadVec vd addr.toNat s

/-- `VLDU.I32`: the 16 bytes at `addr`, whatever the element type (43_vec_mem_shuffle_convert.md R222). -/
def execVlduI32 (vd : VReg) (addr : Word) (s : State) : Result :=
  loadVec vd addr.toNat s

/-- `VLDU.I64`: the 16 bytes at `addr`, whatever the element type (43_vec_mem_shuffle_convert.md R222). -/
def execVlduI64 (vd : VReg) (addr : Word) (s : State) : Result :=
  loadVec vd addr.toNat s

/-- `VSTU.F32`: the 128 bits of the register to the 16 bytes at `addr`, whatever the element type (43_vec_mem_shuffle_convert.md R223). -/
def execVstuF32 (vd : VReg) (addr : Word) (s : State) : Result :=
  storeVec vd addr.toNat s

/-- `VSTU.F64`: the 128 bits of the register to the 16 bytes at `addr`, whatever the element type (43_vec_mem_shuffle_convert.md R223). -/
def execVstuF64 (vd : VReg) (addr : Word) (s : State) : Result :=
  storeVec vd addr.toNat s

/-- `VSTU.I32`: the 128 bits of the register to the 16 bytes at `addr`, whatever the element type (43_vec_mem_shuffle_convert.md R223). -/
def execVstuI32 (vd : VReg) (addr : Word) (s : State) : Result :=
  storeVec vd addr.toNat s

/-- `VSTU.I64`: the 128 bits of the register to the 16 bytes at `addr`, whatever the element type (43_vec_mem_shuffle_convert.md R223). -/
def execVstuI64 (vd : VReg) (addr : Word) (s : State) : Result :=
  storeVec vd addr.toNat s

/-- `VSHUF.F32`: four 32-bit lanes, two low ones picked from the first source and two high ones from the second (43_vec_mem_shuffle_convert.md R226). -/
def execVshufF32 (vd va vb : VReg) (imm8 : BitVec 8) (s : State) : Result :=
  writesReg s vd (shuffle32 imm8 (s.reg va) (s.reg vb))

/-- `VSHUF.F64`: two 64-bit lanes, the low one picked from the first source and the high one from the second (43_vec_mem_shuffle_convert.md R227). -/
def execVshufF64 (vd va vb : VReg) (imm8 : BitVec 8) (s : State) : Result :=
  shuffleCommand64 vd va vb imm8 s

/-- `VSHUF.I32`: four 32-bit lanes, two low ones picked from the first source and two high ones from the second (43_vec_mem_shuffle_convert.md R226). -/
def execVshufI32 (vd va vb : VReg) (imm8 : BitVec 8) (s : State) : Result :=
  writesReg s vd (shuffle32 imm8 (s.reg va) (s.reg vb))

/-- `VSHUF.I64`: two 64-bit lanes, the low one picked from the first source and the high one from the second (43_vec_mem_shuffle_convert.md R227). -/
def execVshufI64 (vd va vb : VReg) (imm8 : BitVec 8) (s : State) : Result :=
  shuffleCommand64 vd va vb imm8 s

end Sys2Proof.Machine
end

