-- ==== Sys2Proof/Machine/Dispatch.lean ====
section
/-! DEFINITION. The dispatch of a command to its meaning: one arm per constructor of `Instr`. -/

namespace Sys2Proof.Machine

def exec (i : Instr) (s : State) : Host.Outcome State Fault Refusal :=
  match i with
  | .nop => Sys2Proof.Machine.execNop s
  | .config width block maxBlock => Sys2Proof.Machine.execConfig width block maxBlock s
  | .loadimp explicit id off req chsel => Sys2Proof.Machine.execLoadimp explicit id off req chsel s
  | .process => Sys2Proof.Machine.execProcess s
  | .clrdiag mask3 => Sys2Proof.Machine.execClrdiag mask3 s
  | .wrfpm z => Sys2Proof.Machine.execWrfpm z s
  | .vbcastF32 vd x => Sys2Proof.Machine.execVbcastF32 vd x s
  | .vbcastF64 vd x => Sys2Proof.Machine.execVbcastF64 vd x s
  | .vbcastI32 vd x => Sys2Proof.Machine.execVbcastI32 vd x s
  | .vbcastI64 vd x => Sys2Proof.Machine.execVbcastI64 vd x s
  | .vaddF32 vd va vb => Sys2Proof.Machine.execVaddF32 vd va vb s
  | .vaddF64 vd va vb => Sys2Proof.Machine.execVaddF64 vd va vb s
  | .vaddI32 vd va vb => Sys2Proof.Machine.execVaddI32 vd va vb s
  | .vaddI64 vd va vb => Sys2Proof.Machine.execVaddI64 vd va vb s
  | .vsubF32 vd va vb => Sys2Proof.Machine.execVsubF32 vd va vb s
  | .vsubF64 vd va vb => Sys2Proof.Machine.execVsubF64 vd va vb s
  | .vsubI32 vd va vb => Sys2Proof.Machine.execVsubI32 vd va vb s
  | .vsubI64 vd va vb => Sys2Proof.Machine.execVsubI64 vd va vb s
  | .vmulF32 vd va vb => Sys2Proof.Machine.execVmulF32 vd va vb s
  | .vmulF64 vd va vb => Sys2Proof.Machine.execVmulF64 vd va vb s
  | .vmulI32 vd va vb => Sys2Proof.Machine.execVmulI32 vd va vb s
  | .vmulI64 vd va vb => Sys2Proof.Machine.execVmulI64 vd va vb s
  | .vdivF32 vd va vb => Sys2Proof.Machine.execVdivF32 vd va vb s
  | .vdivF64 vd va vb => Sys2Proof.Machine.execVdivF64 vd va vb s
  | .vdivI32 vd va vb => Sys2Proof.Machine.execVdivI32 vd va vb s
  | .vdivI64 vd va vb => Sys2Proof.Machine.execVdivI64 vd va vb s
  | .vandF32 vd va vb => Sys2Proof.Machine.execVandF32 vd va vb s
  | .vandF64 vd va vb => Sys2Proof.Machine.execVandF64 vd va vb s
  | .vandI32 vd va vb => Sys2Proof.Machine.execVandI32 vd va vb s
  | .vandI64 vd va vb => Sys2Proof.Machine.execVandI64 vd va vb s
  | .vandnF32 vd va vb => Sys2Proof.Machine.execVandnF32 vd va vb s
  | .vandnF64 vd va vb => Sys2Proof.Machine.execVandnF64 vd va vb s
  | .vandnI32 vd va vb => Sys2Proof.Machine.execVandnI32 vd va vb s
  | .vandnI64 vd va vb => Sys2Proof.Machine.execVandnI64 vd va vb s
  | .vorF32 vd va vb => Sys2Proof.Machine.execVorF32 vd va vb s
  | .vorF64 vd va vb => Sys2Proof.Machine.execVorF64 vd va vb s
  | .vorI32 vd va vb => Sys2Proof.Machine.execVorI32 vd va vb s
  | .vorI64 vd va vb => Sys2Proof.Machine.execVorI64 vd va vb s
  | .vxorF32 vd va vb => Sys2Proof.Machine.execVxorF32 vd va vb s
  | .vxorF64 vd va vb => Sys2Proof.Machine.execVxorF64 vd va vb s
  | .vxorI32 vd va vb => Sys2Proof.Machine.execVxorI32 vd va vb s
  | .vxorI64 vd va vb => Sys2Proof.Machine.execVxorI64 vd va vb s
  | .vminF32 vd va vb => Sys2Proof.Machine.execVminF32 vd va vb s
  | .vminF64 vd va vb => Sys2Proof.Machine.execVminF64 vd va vb s
  | .vminI32 vd va vb => Sys2Proof.Machine.execVminI32 vd va vb s
  | .vminI64 vd va vb => Sys2Proof.Machine.execVminI64 vd va vb s
  | .vmaxF32 vd va vb => Sys2Proof.Machine.execVmaxF32 vd va vb s
  | .vmaxF64 vd va vb => Sys2Proof.Machine.execVmaxF64 vd va vb s
  | .vmaxI32 vd va vb => Sys2Proof.Machine.execVmaxI32 vd va vb s
  | .vmaxI64 vd va vb => Sys2Proof.Machine.execVmaxI64 vd va vb s
  | .vcmpeqF32 vd va vb => Sys2Proof.Machine.execVcmpeqF32 vd va vb s
  | .vcmpeqF64 vd va vb => Sys2Proof.Machine.execVcmpeqF64 vd va vb s
  | .vcmpeqI32 vd va vb => Sys2Proof.Machine.execVcmpeqI32 vd va vb s
  | .vcmpeqI64 vd va vb => Sys2Proof.Machine.execVcmpeqI64 vd va vb s
  | .vcmpgtF32 vd va vb => Sys2Proof.Machine.execVcmpgtF32 vd va vb s
  | .vcmpgtF64 vd va vb => Sys2Proof.Machine.execVcmpgtF64 vd va vb s
  | .vcmpgtI32 vd va vb => Sys2Proof.Machine.execVcmpgtI32 vd va vb s
  | .vcmpgtI64 vd va vb => Sys2Proof.Machine.execVcmpgtI64 vd va vb s
  | .vcmpltF32 vd va vb => Sys2Proof.Machine.execVcmpltF32 vd va vb s
  | .vcmpltF64 vd va vb => Sys2Proof.Machine.execVcmpltF64 vd va vb s
  | .vcmpltI32 vd va vb => Sys2Proof.Machine.execVcmpltI32 vd va vb s
  | .vcmpltI64 vd va vb => Sys2Proof.Machine.execVcmpltI64 vd va vb s
  | .vteqF32 vd va vb => Sys2Proof.Machine.execVteqF32 vd va vb s
  | .vteqF64 vd va vb => Sys2Proof.Machine.execVteqF64 vd va vb s
  | .vtgtF32 vd va vb => Sys2Proof.Machine.execVtgtF32 vd va vb s
  | .vtgtF64 vd va vb => Sys2Proof.Machine.execVtgtF64 vd va vb s
  | .vtltF32 vd va vb => Sys2Proof.Machine.execVtltF32 vd va vb s
  | .vtltF64 vd va vb => Sys2Proof.Machine.execVtltF64 vd va vb s
  | .vselF32 vd va vb vm => Sys2Proof.Machine.execVselF32 vd va vb vm s
  | .vselF64 vd va vb vm => Sys2Proof.Machine.execVselF64 vd va vb vm s
  | .vselI32 vd va vb vm => Sys2Proof.Machine.execVselI32 vd va vb vm s
  | .vselI64 vd va vb vm => Sys2Proof.Machine.execVselI64 vd va vb vm s
  | .vlduF32 vd addr => Sys2Proof.Machine.execVlduF32 vd addr s
  | .vlduF64 vd addr => Sys2Proof.Machine.execVlduF64 vd addr s
  | .vlduI32 vd addr => Sys2Proof.Machine.execVlduI32 vd addr s
  | .vlduI64 vd addr => Sys2Proof.Machine.execVlduI64 vd addr s
  | .vstuF32 vd addr => Sys2Proof.Machine.execVstuF32 vd addr s
  | .vstuF64 vd addr => Sys2Proof.Machine.execVstuF64 vd addr s
  | .vstuI32 vd addr => Sys2Proof.Machine.execVstuI32 vd addr s
  | .vstuI64 vd addr => Sys2Proof.Machine.execVstuI64 vd addr s
  | .vshufF32 vd va vb imm8 => Sys2Proof.Machine.execVshufF32 vd va vb imm8 s
  | .vshufF64 vd va vb imm8 => Sys2Proof.Machine.execVshufF64 vd va vb imm8 s
  | .vshufI32 vd va vb imm8 => Sys2Proof.Machine.execVshufI32 vd va vb imm8 s
  | .vshufI64 vd va vb imm8 => Sys2Proof.Machine.execVshufI64 vd va vb imm8 s
  | .vcvtF32I32 vd va => Sys2Proof.Machine.execVcvtF32I32 vd va s
  | .vcvttI32F32 vd va => Sys2Proof.Machine.execVcvttI32F32 vd va s
  | .vcvtrI32F32 vd va => Sys2Proof.Machine.execVcvtrI32F32 vd va s
  | .vcvtF64I64 vd va => Sys2Proof.Machine.execVcvtF64I64 vd va s
  | .vcvttI64F64 vd va => Sys2Proof.Machine.execVcvttI64F64 vd va s
  | .vcvtrI64F64 vd va => Sys2Proof.Machine.execVcvtrI64F64 vd va s
  | .vcvtF32F64 vd va => Sys2Proof.Machine.execVcvtF32F64 vd va s
  | .vcvtF64F32 vd va => Sys2Proof.Machine.execVcvtF64F32 vd va s

end Sys2Proof.Machine
end

