-- ==== Sys2Proof/Machine/Ports.lean ====
section
/-! DEFINITION. What one input does: presenting and executing packets, the host memory port, the host register port, a change of the sources, and reset (00_scope.md R17; 20_memory.md R77, R78, R90, R91; 70_reset_and_hazards.md R390). -/

namespace Sys2Proof.Machine

open Sys2Proof.Config

/-- A packet that is no command: an opcode outside the map is `ERR_ILLEGAL` on either port; an opcode of the
map on the wrong port is `ERR_PORT` before any other fault of the packet (60_exceptions.md R358, steps 1 to 3). -/
def rejectPacket (pkt : Packet) (e : DecodeError) (s : State) : Result :=
  match pkt, e with
  | w :: _, .malformed => if opAcceptedOn s.port (field w 31 24) then refuse .illegal s else refuse .port s
  | _, _ => refuse .illegal s

/-- Execute one packet on the port `s.port` (R17, R358). -/
def execPacket (pkt : Packet) (s : State) : Result :=
  match decode pkt with
  | .ok i => exec i s
  | .error e => rejectPacket pkt e s

/-- The state a command executes in: the packet taken from its port's queue, the port noted, and a new draw
for the command's free values (log 1, log 7). -/
def State.taking (s : State) (port : Port) (rest : List Packet) : State :=
  { s.setQueue port rest with port := port, draws := s.draws + 1 }

/-- The arbiter executes the oldest packet presented on a port; with none presented nothing happens
(20_memory.md R91; log 9). -/
def serve (port : Port) (s : State) : Result :=
  match s.queue port with
  | [] => .next (s.answer .none)
  | pkt :: rest => execPacket pkt (s.taking port rest)

/-- The host presents a packet on a port: it waits behind the earlier ones (20_memory.md R91). -/
def present (port : Port) (pkt : Packet) (s : State) : Result :=
  .next ((s.setQueue port (s.queue port ++ [pkt])).answer .none)

/-- `HostRead32(a)` (20_memory.md R77). -/
def hostRead (a : Nat) (s : State) : Result :=
  .next (s.answer (if hostReadable a then .data (s.mem.read32 a) else .portError))

/-- `HostWrite32(a, v)` (20_memory.md R78). -/
def hostWrite (a : Nat) (v : Word) (s : State) : Result :=
  .next (if hostWritable a then (s.setMem (s.mem.write32 a v)).answer .written else s.answer .portError)

/-- `CsrRead(n)` (10_state.md R40). -/
def csrRead (n : Nat) (s : State) : Result := .next (s.answer (.data (csrValue s n)))

/-- The host changes the sample sources (10_state.md R37; log 4). -/
def changeSources (dir : Directory) (s : State) : Result := .next ({ s with sources := dir }.answer .none)

/-- Reset (70_reset_and_hazards.md R390): every piece of state takes its reset value and whatever was presented
and not yet executed is discarded.  The parameters (R393) and the sources are not FIRE's state; the inputs
scheduled after the reset and the draw counter are the model's (log 10). -/
def applyReset (s : State) : Result :=
  .next { State.resetWith s.params s.sources with schedule := s.schedule, draws := s.draws }

/-- What one input does to the machine. -/
def takeInput (input : Input) (s : State) : Result :=
  match input with
  | .present port pkt => present port pkt s
  | .serve port => serve port s
  | .hostRead a => hostRead a.toNat s
  | .hostWrite a v => hostWrite a.toNat v s
  | .csrRead n => csrRead n.toNat s
  | .changeSources dir => changeSources dir s
  | .reset => applyReset s

/-- A packet placed so that the next step executes it: at the head of its port's queue, with the arbiter's
choice of that port at the head of the schedule (log 2). -/
def State.withPacket (s : State) (port : Port) (pkt : Packet) : State :=
  { s.setQueue port (pkt :: s.queue port) with schedule := .serve port :: s.schedule }

end Sys2Proof.Machine
end

