-- ==== Sys2Proof/Machine/Step.lean ====
section
/-! DEFINITION. One step of the machine: the next input of its total order (00_scope.md R17, 20_memory.md R90). -/

namespace Sys2Proof.Machine

/-- One step: take the next scheduled input; with none the machine waits (70_reset_and_hazards.md R392; log 9). -/
def step (s : State) : Host.Outcome State Fault Refusal :=
  match s.schedule with
  | [] => .next s
  | input :: rest => takeInput input { s with schedule := rest }

/-- The state in which the very next step executes the instruction of an opcode-table row whose bits are `w`
(log 2). -/
def State.withFetchWord (s : State) (nbits w : Nat) : State :=
  s.withPacket (homePort (tablePacket nbits w)) (tablePacket nbits w)

end Sys2Proof.Machine
end

