-- ==== Sys2Proof/Safety.lean ====
section
/-! DEFINITION. The terms claims are stated in: the invariant of every reachable state, what a command leaves unchanged, what "correctly rounded" means, and the stream a history ring holds. -/

namespace Sys2Proof.Machine

open Sys2Proof.Config

/-! ### The invariant -/

/-- What every step keeps: the two invariants of 10_state.md R35 (mirror, zero padding), the cursor invariant
of 45_history_ring.md R274, the ranges of the status registers (10_state.md R45 to R51), what an inert instance
never writes (60_exceptions.md R365), and the canonical form of the model's memory. -/
structure Inv (s : State) : Prop where
  /-- The memory's canonical form (the model's own). -/
  canonical : Memory.wf s.mem
  /-- R35 (a), R276. -/
  mirror : ∀ i, i < 4096 → s.mem.hist i = s.mem.hist (i + 4096)
  /-- R47. -/
  length : s.impLen.toNat ≤ 2044
  /-- R48. -/
  padded : s.impPadLen.toNat = 16 * ((s.impLen.toNat + 15) / 16)
  /-- R35 (b), R260. -/
  padding : ∀ i, i < 2048 → i < s.impPadLen.toNat - s.impLen.toNat ∨ s.impPadLen.toNat ≤ i → s.mem.imp i = 0
  /-- R274, R49. -/
  cursor : s.inPos.toNat < 4096
  /-- R45, R46, R274, R321, R322. -/
  configured : s.status.configured = true →
    1 ≤ s.cfgBlock.toNat ∧ 4096 % s.cfgBlock.toNat = 0 ∧ s.inPos.toNat % s.cfgBlock.toNat = 0 ∧
      s.inPos.toNat + s.cfgBlock.toNat ≤ 4096 ∧ s.cfgBlock.toNat ≤ s.cfgMaxBlock.toNat ∧
      s.cfgMaxBlock.toNat % s.cfgBlock.toNat = 0 ∧ 2048 + s.cfgMaxBlock.toNat < 4096 ∧
      s.status.simdSel = s.params.simdPresent
  /-- R392. -/
  unconfigured : s.status.configured = false →
    s.cfgBlock = 0 ∧ s.cfgMaxBlock = 0 ∧ s.inPos = 0 ∧ s.winStart = 0 ∧ s.winLen = 0 ∧ s.status.simdSel = false ∧
      s.status.width = .native
  /-- R43, R391. -/
  inert : s.status.inert = !s.params.allocOk
  /-- R365. -/
  silent : s.status.inert = true →
    (∀ i, i < 8192 → s.mem.hist i = 0) ∧ (∀ i, i < 2048 → s.mem.imp i = 0) ∧ s.impLen = 0 ∧ s.inPos = 0 ∧
      s.winStart = 0 ∧ s.winLen = 0
  /-- R44: `ALLOC_FAIL` is set at reset of an inert instance only. -/
  allocFail : s.diag.allocFail = true → s.status.inert = true
  /-- R275: the window lies inside HIST. -/
  window : s.winStart = 0 ∧ s.winLen = 0 ∨ 2048 ≤ s.winStart.toNat ∧ s.winStart.toNat + s.winLen.toNat ≤ 8192

/-! ### What a command leaves unchanged -/

/-- The state a command leaves that did nothing but be recorded: the error record of its port and the response
(60_exceptions.md R350, R351). -/
def State.recorded (s : State) (e : ErrCode) (val : Word) : State :=
  { s with status := s.status.record s.port e, output := .response e val }

/-- A VectorOps command wrote its destination register (40_vec_arith.md R150 (d), (h)): `good` holds of the
register's new value; every other register, every byte of memory and every status register, the error record of
port P apart, is unchanged. -/
structure RegisterWritten (s t : State) (vd : VReg) (good : Vec → Prop) : Prop where
  value : good (t.reg vd)
  others : ∀ r, r ≠ vd → t.reg r = s.reg r
  bytes : ∀ a, t.mem.byte a = s.mem.byte a
  rest : t = { s with v := t.v, status := s.status.record .p .ok, output := .response .ok 0 }

/-- What 40_vec_arith.md R150 (a), (b) make of a VectorOps command: refused on port C, refused without the
capability, and with it on port P a next state of which `ran` holds. -/
def VectorOutcome (s : State) (r : Result) (ran : State → Prop) : Prop :=
  (s.port = .c → r = .next (s.recorded .port 0)) ∧
    (s.port = .p → s.params.simdPresent = false → r = .next (s.recorded .noSimd 0)) ∧
    (s.port = .p → s.params.simdPresent = true → ∃ t, r = .next t ∧ ran t)

/-- A register-writing VectorOps command whose result satisfies `good`. -/
def WritesRegister (s : State) (r : Result) (vd : VReg) (good : Vec → Prop) : Prop :=
  VectorOutcome s r fun t => RegisterWritten s t vd good

/-- Every 32-bit lane of the result is related to those lanes of two sources. -/
def Lanes32 (rel : Word → Word → Word → Prop) (a b x : Vec) : Prop :=
  ∀ k, k < 4 → rel (lane 32 a k) (lane 32 b k) (lane 32 x k)

/-- Every 64-bit lane of the result is related to those lanes of two sources. -/
def Lanes64 (rel : Dword → Dword → Dword → Prop) (a b x : Vec) : Prop :=
  ∀ k, k < 2 → rel (lane 64 a k) (lane 64 b k) (lane 64 x k)

/-- The opcode of a command (30_encoding.md R125). -/
def opcodeOf (i : Instr) : Nat := field ((encode i).headD 0) 31 24

/-- The opcodes of the map (30_encoding.md R125); all others are reserved (R126 (a)). -/
def mapped (op : Nat) : Prop := op ≤ 0x05 ∨ 0x10 ≤ op ∧ op ≤ 0x24 ∨ 0x28 ≤ op ∧ op ≤ 0x2F

/-- The commands a port accepts (60_exceptions.md R370). -/
def accepts : Port → Nat → Prop
  | .c, op => op = 0x00 ∨ op = 0x01 ∨ op = 0x02 ∨ op = 0x04
  | .p, op => op = 0x00 ∨ op = 0x03 ∨ op = 0x05 ∨ 0x10 ≤ op ∧ op ≤ 0x24 ∨ 0x28 ≤ op ∧ op ≤ 0x2F

/-- The next step executes a command: the packet its input serves decodes to it (20_memory.md R90, R91). -/
def State.Executes (s : State) (i : Instr) : Prop :=
  ∃ port rest pkt q, s.schedule = .serve port :: rest ∧ s.queue port = pkt :: q ∧ decode pkt = .ok i

/-- The next step is a reset (70_reset_and_hazards.md R390). -/
def State.Resets (s : State) : Prop := ∃ rest, s.schedule = .reset :: rest

/-! ### Rounding -/

/-- How far a magnitude of the format is from `n / d` quanta, times `d`. -/
def FloatFormat.distance {w : Nat} (F : FloatFormat w) (n d mag : Nat) : Nat :=
  ((F.quanta mag * d : Nat) - (n : Int)).natAbs

/-- `r` is `n / d` quanta rounded to nearest, ties to even (40_vec_arith.md R152): no magnitude of the format is
nearer, and one as near is never taken with an odd last bit.  The magnitude of the infinity stands for the power
of two above the largest finite value, which is how IEEE 754 rounds an overflow. -/
def FloatFormat.Nearest {w : Nat} (F : FloatFormat w) (n d r : Nat) : Prop :=
  r ≤ F.infMag ∧
    ∀ mag, mag ≤ F.infMag → F.distance n d r ≤ F.distance n d mag ∧
      (mag ≠ r → F.distance n d mag = F.distance n d r → r % 2 = 0)

/-- A quiet NaN: exponent all ones, top fraction bit 1 (40_vec_arith.md R151, R152). -/
def FloatFormat.Quiet {w : Nat} (F : FloatFormat w) (x : BitVec w) : Prop :=
  F.mag x / 2 ^ F.fracBits = F.maxExp ∧ x.getLsbD (F.fracBits - 1) = true

/-- A subnormal: exponent zero, fraction not zero (40_vec_arith.md R151). -/
def FloatFormat.Subnormal {w : Nat} (F : FloatFormat w) (x : BitVec w) : Prop :=
  F.mag x / 2 ^ F.fracBits = 0 ∧ F.mag x % 2 ^ F.fracBits ≠ 0

/-- Addition, multiplication and division of finite operands are the exact result rounded, with its sign
(40_vec_arith.md R152), when nothing is flushed. -/
def CorrectlyRounded {w : Nat} (F : FloatFormat w) : Prop :=
  ∀ (d : Dword) (a b : BitVec w) (s t : Bool) (m n : Nat), F.value a = .fin s m → F.value b = .fin t n →
    (signedQuanta s m + signedQuanta t n ≠ 0 →
      F.sign (F.add false d a b) = decide (signedQuanta s m + signedQuanta t n < 0) ∧
        F.Nearest (signedQuanta s m + signedQuanta t n).natAbs 1 (F.mag (F.add false d a b))) ∧
    (F.sign (F.mul false d a b) = (s ^^ t) ∧ F.Nearest (m * n) (2 ^ F.shift) (F.mag (F.mul false d a b))) ∧
    (n ≠ 0 → F.sign (F.div false d a b) = (s ^^ t) ∧ F.Nearest (m * 2 ^ F.shift) n (F.mag (F.div false d a b)))

/-- The special operands of 40_vec_arith.md R152. -/
structure SpecialCases {w : Nat} (F : FloatFormat w) : Prop where
  nanOperand : ∀ z d a b, F.isNaN a = true ∨ F.isNaN b = true →
    F.Quiet (F.add z d a b) ∧ F.Quiet (F.sub z d a b) ∧ F.Quiet (F.mul z d a b) ∧ F.Quiet (F.div z d a b)
  infAdd : ∀ z d s x, F.add z d (F.infinity s) (F.infinity s) = F.infinity s ∧
    F.Quiet (F.add z d (F.infinity s) (F.infinity !s)) ∧
    (F.mag x < F.infMag → F.add z d (F.infinity s) x = F.infinity s ∧ F.add z d x (F.infinity s) = F.infinity s)
  zeroSum : ∀ z d s t, F.add z d (F.zero s) (F.zero t) = F.zero (s && t)
  cancel : ∀ z d x, 0 < F.mag x → F.mag x < F.infMag → F.add z d x (F.negate x) = F.zero false
  infMul : ∀ z d s t x, F.mul z d (F.infinity s) (F.infinity t) = F.infinity (s ^^ t) ∧
    F.Quiet (F.mul z d (F.infinity s) (F.zero t)) ∧ F.Quiet (F.mul z d (F.zero s) (F.infinity t)) ∧
    (0 < F.mag x → F.mag x < F.infMag → F.mul z d (F.infinity s) x = F.infinity (s ^^ F.sign x) ∧
      F.mul z d x (F.infinity s) = F.infinity (F.sign x ^^ s))
  zeroMul : ∀ z d s x, F.mag x < F.infMag → F.mul z d (F.zero s) x = F.zero (s ^^ F.sign x)
  infDiv : ∀ z d s t x, F.Quiet (F.div z d (F.infinity s) (F.infinity t)) ∧
    (F.mag x < F.infMag → F.div z d x (F.infinity s) = F.zero (F.sign x ^^ s))
  zeroDiv : ∀ z d s t x, F.Quiet (F.div z d (F.zero s) (F.zero t)) ∧
    (0 < F.mag x → F.mag x < F.infMag → F.div z d x (F.zero s) = F.infinity (F.sign x ^^ s) ∧
      F.div z d (F.zero s) x = F.zero (s ^^ F.sign x))

/-- Flush-to-zero acts on the rounded result (40_vec_arith.md R153). -/
def FlushesResults {w : Nat} (F : FloatFormat w) : Prop :=
  ∀ (d : Dword) (a b : BitVec w) (op : Bool → Dword → BitVec w → BitVec w → BitVec w),
    (op = F.add ∨ op = F.sub ∨ op = F.mul ∨ op = F.div) →
      (F.Subnormal (op false d a b) → op true d a b = F.zero (F.sign (op false d a b))) ∧
      (¬ F.Subnormal (op false d a b) → op true d a b = op false d a b)

/-- The three comparisons order the values (42_vec_compare_select.md R200). -/
structure OrdersValues {w : Nat} (F : FloatFormat w) : Prop where
  unordered : ∀ a b, F.isNaN a = true ∨ F.isNaN b = true → F.eq a b = false ∧ F.lt a b = false ∧ F.gt a b = false
  converse : ∀ a b, F.gt a b = F.lt b a
  trichotomy : ∀ a b, F.isNaN a = false → F.isNaN b = false →
    (F.eq a b = true ∧ F.lt a b = false ∧ F.gt a b = false) ∨ (F.eq a b = false ∧ F.lt a b = true ∧ F.gt a b = false) ∨
      (F.eq a b = false ∧ F.lt a b = false ∧ F.gt a b = true)
  equal : ∀ a b, F.isNaN a = false → F.isNaN b = false →
    (F.eq a b = true ↔ a = b ∨ F.mag a = 0 ∧ F.mag b = 0)
  positive : ∀ a b, F.isNaN a = false → F.isNaN b = false → F.sign a = false → F.sign b = false →
    (F.lt a b = true ↔ F.mag a < F.mag b)
  negative : ∀ a b, F.isNaN a = false → F.isNaN b = false → F.sign a = true → F.sign b = true →
    (F.lt a b = true ↔ F.mag b < F.mag a)
  opposite : ∀ a b, F.isNaN a = false → F.isNaN b = false → F.sign a = true → F.sign b = false →
    (F.lt a b = true ↔ ¬ (F.mag a = 0 ∧ F.mag b = 0))

/-- The integer `x` is a value of quanta `2 ^ -shift` truncated toward zero and saturated to the range of a signed
integer of `bits + 1` bits (43_vec_mem_shuffle_convert.md R230, R232). -/
def TruncatedTo (bits shift : Nat) (v : FloatValue) (x : Int) : Prop :=
  match v with
  | .nan => x = 0
  | .inf neg => x = if neg then -2 ^ bits else 2 ^ bits - 1
  | .fin neg q => x = max (-2 ^ bits) (min (2 ^ bits - 1) ((signedQuanta neg q).tdiv (2 ^ shift)))

/-- The integer `x` is a value of quanta `2 ^ -shift` rounded to the nearest integer, ties to the even one, and
saturated (43_vec_mem_shuffle_convert.md R230, R233). -/
def NearestIntTo (bits shift : Nat) (v : FloatValue) (x : Int) : Prop :=
  match v with
  | .nan => x = 0
  | .inf neg => x = if neg then -2 ^ bits else 2 ^ bits - 1
  | .fin neg q => ∃ n : Int, x = max (-2 ^ bits) (min (2 ^ bits - 1) n) ∧
      2 * (n * 2 ^ shift - signedQuanta neg q).natAbs ≤ 2 ^ shift ∧
      (2 * (n * 2 ^ shift - signedQuanta neg q).natAbs = 2 ^ shift → n % 2 = 0)

/-! ### The kernel -/

/-- Product of tap `j` for output sample `i`: `fmul_32(IMP[j], win(i - L + 1 + j), 1)`
(46_convolution_kernel.md R290, R293). -/
def tapProduct (m : Memory) (d : Dword) (p len i j : Nat) : Word :=
  f32.mul true d (m.imp j) (m.hist (p + 4096 + i + 1 + j - len))

/-- Lane `k` of the SIMD accumulator: the left-to-right sum from `+0.0` of the products of taps
`k, k + 4, k + 8, ...` (46_convolution_kernel.md R293). -/
def laneSum (m : Memory) (d : Dword) (p len i k : Nat) : Word :=
  (List.range (len / 4)).foldl (fun acc q => f32.add true d acc (tapProduct m d p len i (4 * q + k))) 0

/-- An output sample: the four lane sums added in order on the SIMD path (R293, R294), the products added in order
on the scalar path (R295). -/
def kernelOutput (m : Memory) (simd : Bool) (d : Dword) (p len i : Nat) : Word :=
  if simd then
    f32.add true d (f32.add true d (f32.add true d (laneSum m d p len i 0) (laneSum m d p len i 1))
      (laneSum m d p len i 2)) (laneSum m d p len i 3)
  else
    (List.range len).foldl (fun acc j => f32.add true d acc (tapProduct m d p len i j)) 0

/-- `x` is input sample `i` of a PROCESS (47_perform_dispatch.md R325, R327): the word of INB, or the doubleword
narrowed under flush-to-zero, a NaN with some drawn bits. -/
def IsInputSample (s : State) (i : Nat) (x : Word) : Prop :=
  match s.status.width with
  | .native => x = s.mem.inb32 i
  | .hostDouble => ∃ d, x = narrow true d (s.mem.inb64 i)

/-- Output sample `i` in a memory is `y` at the width of the configuration (47_perform_dispatch.md R325, R327). -/
def IsOutputSample (width : SampleWidth) (m : Memory) (i : Nat) (y : Word) : Prop :=
  match width with
  | .native => m.outb32 i = y
  | .hostDouble => ∃ d, m.outb64 i = widen d y

/-- The bytes of OUTB a PROCESS writes (47_perform_dispatch.md R331). -/
def outputBytes (s : State) : Nat :=
  match s.status.width with
  | .native => 4 * s.cfgBlock.toNat
  | .hostDouble => 8 * s.cfgBlock.toNat

/-! ### The stream -/

/-- The stream with its 4096 zeros before time 0 (45_history_ring.md R278): index `4096 + n` is `X[n]`. -/
def paddedStream (xs : List Word) (k : Nat) : Word := if k < 4096 then 0 else xs.getD (k - 4096) 0

/-- The ring holds the last 4096 samples of a stream, zeros standing before its first (45_history_ring.md R278). -/
structure RingHolds (s : State) (xs : List Word) : Prop where
  cursor : s.inPos.toNat = xs.length % 4096
  samples : ∀ k, k < 4096 → s.mem.hist ((xs.length + k) % 4096) = paddedStream xs (xs.length + k)

end Sys2Proof.Machine
end

