-- ==== Sys2Proof/Certificates/Slice0/Obligations.lean ====
section
/-! DEFINITION. The statements for the provers, from the numbered rules of spec/. -/

open Sys2Proof Sys2Proof.Machine Sys2Proof.Config

/-! ### Encoding -/

/-- 30_encoding.md R113 to R125: the decoder reads every well-formed command back from its packet. -/
def Obligations.DecodeOfEncode : Prop := ∀ i : Instr, i.wellFormed = true → decode (encode i) = .ok i

/-- 30_encoding.md R126: no bit of a packet is ignored; a packet that decodes is the one packet of its command. -/
def Obligations.EncodeOfDecode : Prop :=
  ∀ (pkt : Packet) (i : Instr), decode pkt = .ok i → encode i = pkt ∧ i.wellFormed = true

/-- Words written out in 30_encoding.md R130 and in the rules of the commands decode to the commands they stand for. -/
def Obligations.SpecWordsDecode : Prop :=
  decode [0x00000000] = .ok .nop ∧
  decode [0x01000000, 0x00040004] = .ok (.config .native 4 4) ∧
  decode [0x02000001, 1, 0, 2, 1] = .ok (.loadimp true 1 0 2 1) ∧
  decode [0x03000000] = .ok .process ∧
  decode [0x04000007] = .ok (.clrdiag 7) ∧
  decode [0x05000001] = .ok (.wrfpm true) ∧
  decode [0x10010000, 0x3F800000] = .ok (.vbcastF32 1 0x3F800000) ∧
  decode [0x11012300] = .ok (.vaddF32 1 2 3) ∧
  decode [0x16801200] = .ok (.vandnI32 0 1 2) ∧
  decode [0x19801200] = .ok (.vminI32 0 1 2) ∧
  decode [0x1F401200] = .ok (.vtgtF64 0 1 2) ∧
  decode [0x21801230] = .ok (.vselI32 0 1 2 3) ∧
  decode [0x22020000, 0x0000A000] = .ok (.vlduF32 2 0xA000) ∧
  decode [0x23820000, 0x0000E008] = .ok (.vstuI32 2 0xE008) ∧
  decode [0x24C01101] = .ok (.vshufI64 0 1 1 1) ∧
  decode [0x29845000] = .ok (.vcvttI32F32 4 5) ∧
  decode [0x2F401000] = .ok (.vcvtF64F32 0 1)

/-- 60_exceptions.md R358, steps 1 to 3: a reserved opcode is `ERR_ILLEGAL` on either port; an opcode of the map on
the port that does not accept it is `ERR_PORT` whatever else is wrong with the packet; on the port that accepts it a
packet that is no command is `ERR_ILLEGAL`. -/
def Obligations.PacketErrorOrder : Prop :=
  ∀ (w : Word) (ops : Packet) (s : State),
    (¬ mapped (field w 31 24) → execPacket (w :: ops) s = .next (s.recorded .illegal 0)) ∧
    (mapped (field w 31 24) → ¬ accepts s.port (field w 31 24) →
      execPacket (w :: ops) s = .next (s.recorded .port 0)) ∧
    (mapped (field w 31 24) → accepts s.port (field w 31 24) → (∀ i, decode (w :: ops) ≠ .ok i) →
      execPacket (w :: ops) s = .next (s.recorded .illegal 0))

/-! ### Steps and ports

The schedule, the queues and `output` are the model's form of the inputs, their total order and the answers (DESIGN
CHOICE, log 1 and log 8). -/

/-- 20_memory.md R90, R91: when the arbiter serves a port, the step executes its oldest packet on that port, with the
packet gone from the queue, the other port's packets kept, and the draw counter of the free values moved on (log 7);
it executes the command the packet stands for, if it stands for one.  10_state.md R37: a change of the sources changes
nothing else.  Serving an empty port, or having no input, changes nothing (log 9). -/
def Obligations.StepRunsDecodedCommand : Prop :=
  (∀ (s : State) (port : Port) (rest : List Input) (pkt : Packet) (q : List Packet),
    s.schedule = .serve port :: rest → s.queue port = pkt :: q →
      let served : State :=
        { s with
          schedule := rest
          queueC := if port = .c then q else s.queueC
          queueP := if port = .p then q else s.queueP
          port := port
          draws := s.draws + 1 }
      step s = execPacket pkt served ∧ ∀ i, decode pkt = .ok i → step s = exec i served) ∧
  (∀ (s : State) (port : Port) (rest : List Input), s.schedule = .serve port :: rest → s.queue port = [] →
    step s = .next { s with schedule := rest, output := .none }) ∧
  (∀ (s : State) (dir : Directory) (rest : List Input), s.schedule = .changeSources dir :: rest →
    step s = .next { s with schedule := rest, sources := dir, output := .none }) ∧
  ∀ s : State, s.schedule = [] → step s = .next s

/-- 20_memory.md R91: a packet presented on a port waits behind the earlier ones of that port; nothing else
changes. -/
def Obligations.PresentedPacketsWaitInOrder : Prop :=
  ∀ (s : State) (port : Port) (pkt : Packet) (rest : List Input), s.schedule = .present port pkt :: rest →
    step s = .next
      { s with
        schedule := rest
        queueC := if port = .c then s.queueC ++ [pkt] else s.queueC
        queueP := if port = .p then s.queueP ++ [pkt] else s.queueP
        output := .none }

/-- 20_memory.md R77: an aligned mapped word is returned, any other address gives the error indication, and the
machine is unchanged either way. -/
def Obligations.HostReadReturnsTheWord : Prop :=
  ∀ (s : State) (a : Word) (rest : List Input), s.schedule = .hostRead a :: rest →
    (a.toNat % 4 = 0 → a.toNat < 0x12000 →
      step s = .next
        { s with
          schedule := rest
          output := .data (s.mem.byte (a.toNat + 3) ++ s.mem.byte (a.toNat + 2) ++ s.mem.byte (a.toNat + 1) ++ s.mem.byte a.toNat) }) ∧
    (a.toNat % 4 ≠ 0 ∨ 0x12000 ≤ a.toNat → step s = .next { s with schedule := rest, output := .portError })

/-- 20_memory.md R78: a host write of an aligned word of INB or OUTB sets its four bytes, least significant first,
and no other; any other address writes nothing and gives the error indication. -/
def Obligations.HostWriteStoresTheWord : Prop :=
  ∀ (s : State) (a x : Word) (rest : List Input), s.schedule = .hostWrite a x :: rest →
    (a.toNat % 4 = 0 → 0x0A000 ≤ a.toNat → a.toNat ≤ 0x11FFF →
      ∃ t, step s = .next t ∧ (∀ j, j < 4 → t.mem.byte (a.toNat + j) = x.extractLsb' (8 * j) 8) ∧
        (∀ c, c < a.toNat ∨ a.toNat + 4 ≤ c → t.mem.byte c = s.mem.byte c) ∧
        t = { s with schedule := rest, mem := t.mem, output := .written }) ∧
    (a.toNat % 4 ≠ 0 ∨ a.toNat < 0x0A000 ∨ 0x11FFF < a.toNat →
      step s = .next { s with schedule := rest, output := .portError })

/-- 60_exceptions.md R351: the numbers of the error codes.  10_state.md R40 to R52: what the host reads from each
status register; the read changes nothing. -/
def Obligations.StatusRegistersReadAsTheSpecSays : Prop :=
  (ErrCode.ok.code = 0 ∧ ErrCode.illegal.code = 1 ∧ ErrCode.badConfig.code = 2 ∧ ErrCode.notConfigured.code = 3 ∧
    ErrCode.addr.code = 4 ∧ ErrCode.noSimd.code = 5 ∧ ErrCode.port.code = 6) ∧
  ∀ (s : State) (n : Word) (rest : List Input), s.schedule = .csrRead n :: rest →
    ∃ x : Word, step s = .next { s with schedule := rest, output := .data x } ∧
      (n = 0 → x = 0x46495245) ∧
      (n = 1 → x.getLsbD 0 = s.params.simdPresent ∧ x.getLsbD 1 = decide (s.params.family = .b) ∧
        x.extractLsb' 2 30 = 0) ∧
      (n = 2 → x.getLsbD 0 = s.status.configured ∧ x.getLsbD 1 = s.status.inert ∧
        x.getLsbD 2 = s.status.simdSel ∧ x.getLsbD 3 = decide (s.status.width = .hostDouble) ∧
        x.extractLsb' 4 4 = 0 ∧ x.extractLsb' 8 8 = s.status.lastErrP.code ∧
        x.extractLsb' 16 8 = s.status.lastErrC.code ∧ x.extractLsb' 24 8 = 0) ∧
      (n = 3 → x.getLsbD 0 = s.diag.allocFail ∧ x.getLsbD 1 = s.diag.srcShort ∧ x.getLsbD 2 = s.diag.srcInvalid ∧
        x.extractLsb' 3 29 = 0) ∧
      (n = 4 → x = s.cfgBlock) ∧ (n = 5 → x = s.cfgMaxBlock) ∧ (n = 6 → x = s.impLen) ∧
      (n = 7 → x = s.impPadLen) ∧ (n = 8 → x = s.inPos) ∧ (n = 9 → x = s.winStart) ∧ (n = 10 → x = s.winLen) ∧
      (n = 11 → x.getLsbD 0 = s.ftz ∧ x.extractLsb' 1 31 = 0) ∧
      (12 ≤ n.toNat → x = 0)

/-- 10_state.md R60, 70_reset_and_hazards.md R390, R391: what reset leaves, whatever the state before it; that the
inputs scheduled after the reset still come is the model's choice (log 10). -/
def Obligations.ResetValues : Prop :=
  ∀ (s : State) (rest : List Input), s.schedule = .reset :: rest →
    ∃ t, step s = .next t ∧ (∀ i, i < 8192 → t.mem.hist i = 0) ∧ (∀ i, i < 2048 → t.mem.imp i = 0) ∧
      t.status = { configured := false, inert := !s.params.allocOk, simdSel := false, width := .native,
                   lastErrP := .ok, lastErrC := .ok } ∧
      t.diag = { allocFail := !s.params.allocOk, srcShort := false, srcInvalid := false } ∧
      t.cfgBlock = 0 ∧ t.cfgMaxBlock = 0 ∧ t.impLen = 0 ∧ t.impPadLen = 0 ∧ t.inPos = 0 ∧ t.winStart = 0 ∧
      t.winLen = 0 ∧ t.ftz = false ∧ t.queueC = [] ∧ t.queueP = [] ∧ t.output = .none ∧ t.params = s.params ∧
      t.schedule = rest

/-- 00_scope.md R17: every step has exactly one outcome, and it is a next state. -/
def Obligations.EveryStepHasANextState : Prop :=
  (∀ s : State, ∃ t, step s = .next t) ∧ ∀ (i : Instr) (s : State), ∃ t, exec i s = .next t

/-! ### The invariant -/

/-- 10_state.md R35, 45_history_ring.md R274, R276, 44_impulse_loader.md R260: every step keeps the invariant. -/
def Obligations.EveryStepKeepsTheInvariant : Prop :=
  ∀ s t : State, Inv s → step s = .next t → Inv t

/-- The invariant holds right after reset, for every instance. -/
def Obligations.ResetMeetsTheInvariant : Prop :=
  Inv State.reset ∧ ∀ (params : Params) (dir : Directory), Inv (State.resetWith params dir)

/-! ### How commands end -/

/-- 60_exceptions.md R351: a command's code is in its response and in the record of its port; the other port's record
is unchanged, and a refusal answers the value 0. -/
def Obligations.ErrorRecordHoldsTheResponse : Prop :=
  ∀ (i : Instr) (s t : State), exec i s = .next t →
    ∃ e x, t.output = .response e x ∧ t.status.lastErr s.port = e ∧
      (∀ q, q ≠ s.port → t.status.lastErr q = s.status.lastErr q) ∧ (e ≠ .ok → x = 0)

/-- 60_exceptions.md R352: a refused command changes the error record of its port and nothing else. -/
def Obligations.RefusalChangesOnlyTheRecord : Prop :=
  ∀ (i : Instr) (s t : State) (e : ErrCode) (x : Word), exec i s = .next t → t.output = .response e x → e ≠ .ok →
    x = 0 ∧ t = { s with status := s.status.record s.port e, output := .response e 0 }

/-- 60_exceptions.md R359: the errors each command can give. -/
def Obligations.PossibleErrors : Prop :=
  ∀ (i : Instr) (s t : State) (e : ErrCode) (x : Word), i.wellFormed = true → exec i s = .next t →
    t.output = .response e x →
      e = .ok ∨ (e = .port ∧ opcodeOf i ≠ 0x00) ∨ (e = .badConfig ∧ opcodeOf i = 0x01) ∨
        (e = .notConfigured ∧ opcodeOf i = 0x03) ∨ (e = .noSimd ∧ 0x10 ≤ opcodeOf i) ∨
        (e = .addr ∧ (opcodeOf i = 0x22 ∨ opcodeOf i = 0x23))

/-- 60_exceptions.md R354, R356, R358, R370: a command on the port that does not accept it is `ERR_PORT`; on port P
every VectorOps command is `ERR_NO_SIMD` without the capability, before its address is looked at. -/
def Obligations.WrongPortAndMissingUnitAreRefused : Prop :=
  ∀ (i : Instr) (s : State),
    (¬ accepts s.port (opcodeOf i) → exec i s = .next (s.recorded .port 0)) ∧
    (i.wellFormed = true → 0x10 ≤ opcodeOf i → s.port = .p → s.params.simdPresent = false →
      exec i s = .next (s.recorded .noSimd 0))

/-! ### VectorOps: results and frames -/

/-- 40_vec_arith.md R160. -/
def Obligations.BroadcastFillsEveryLane : Prop :=
  ∀ (vd : VReg) (x : Word) (y : Dword) (s : State),
    WritesRegister s (exec (.vbcastF32 vd x) s) vd (fun v => ∀ k, k < 4 → lane 32 v k = x) ∧
    WritesRegister s (exec (.vbcastF64 vd y) s) vd (fun v => ∀ k, k < 2 → lane 64 v k = y) ∧
    WritesRegister s (exec (.vbcastI32 vd x) s) vd (fun v => ∀ k, k < 4 → lane 32 v k = x) ∧
    WritesRegister s (exec (.vbcastI64 vd y) s) vd (fun v => ∀ k, k < 2 → lane 64 v k = y)

/-- 40_vec_arith.md R162, R164, R156: wrapping sums and differences of the lanes. -/
def Obligations.IntegerAddSubResult : Prop :=
  ∀ (vd va vb : VReg) (s : State),
    WritesRegister s (exec (.vaddI32 vd va vb) s) vd
      (Lanes32 (fun a b r => r.toNat = (a.toNat + b.toNat) % 2 ^ 32) (s.reg va) (s.reg vb)) ∧
    WritesRegister s (exec (.vaddI64 vd va vb) s) vd
      (Lanes64 (fun a b r => r.toNat = (a.toNat + b.toNat) % 2 ^ 64) (s.reg va) (s.reg vb)) ∧
    WritesRegister s (exec (.vsubI32 vd va vb) s) vd
      (Lanes32 (fun a b r => (r.toNat : Int) = ((a.toNat : Int) - b.toNat) % 2 ^ 32) (s.reg va) (s.reg vb)) ∧
    WritesRegister s (exec (.vsubI64 vd va vb) s) vd
      (Lanes64 (fun a b r => (r.toNat : Int) = ((a.toNat : Int) - b.toNat) % 2 ^ 64) (s.reg va) (s.reg vb))

/-- 40_vec_arith.md R166, R168, R156: low bits of the product; the signed quotient toward zero, all ones for a zero
divisor, `MIN` for `MIN / -1`. -/
def Obligations.IntegerMulDivResult : Prop :=
  ∀ (vd va vb : VReg) (s : State),
    WritesRegister s (exec (.vmulI32 vd va vb) s) vd
      (Lanes32 (fun a b r => r.toNat = (a.toNat * b.toNat) % 2 ^ 32) (s.reg va) (s.reg vb)) ∧
    WritesRegister s (exec (.vmulI64 vd va vb) s) vd
      (Lanes64 (fun a b r => r.toNat = (a.toNat * b.toNat) % 2 ^ 64) (s.reg va) (s.reg vb)) ∧
    WritesRegister s (exec (.vdivI32 vd va vb) s) vd
      (Lanes32 (fun a b r => r.toInt = if b.toInt = 0 then -1 else if a.toInt = -2 ^ 31 ∧ b.toInt = -1 then -2 ^ 31
        else a.toInt.tdiv b.toInt) (s.reg va) (s.reg vb)) ∧
    WritesRegister s (exec (.vdivI64 vd va vb) s) vd
      (Lanes64 (fun a b r => r.toInt = if b.toInt = 0 then -1 else if a.toInt = -2 ^ 63 ∧ b.toInt = -1 then -2 ^ 63
        else a.toInt.tdiv b.toInt) (s.reg va) (s.reg vb))

/-- 40_vec_arith.md R161, R163: `fadd` of the lanes under the ambient mode, and of the first and the negated second;
a NaN result takes some drawn bits (log 7), of which nothing is said. -/
def Obligations.FloatAddSubResult : Prop :=
  ∀ (vd va vb : VReg) (s : State),
    WritesRegister s (exec (.vaddF32 vd va vb) s) vd
      (Lanes32 (fun a b r => ∃ d, r = f32.add s.ftz d a b) (s.reg va) (s.reg vb)) ∧
    WritesRegister s (exec (.vaddF64 vd va vb) s) vd
      (Lanes64 (fun a b r => ∃ d, r = f64.add s.ftz d a b) (s.reg va) (s.reg vb)) ∧
    WritesRegister s (exec (.vsubF32 vd va vb) s) vd
      (Lanes32 (fun a b r => ∃ d, r = f32.add s.ftz d a (b ^^^ 0x80000000)) (s.reg va) (s.reg vb)) ∧
    WritesRegister s (exec (.vsubF64 vd va vb) s) vd
      (Lanes64 (fun a b r => ∃ d, r = f64.add s.ftz d a (b ^^^ 0x8000000000000000)) (s.reg va) (s.reg vb))

/-- 40_vec_arith.md R165, R167: `fmul` and `fdiv` of the lanes under the ambient mode. -/
def Obligations.FloatMulDivResult : Prop :=
  ∀ (vd va vb : VReg) (s : State),
    WritesRegister s (exec (.vmulF32 vd va vb) s) vd
      (Lanes32 (fun a b r => ∃ d, r = f32.mul s.ftz d a b) (s.reg va) (s.reg vb)) ∧
    WritesRegister s (exec (.vmulF64 vd va vb) s) vd
      (Lanes64 (fun a b r => ∃ d, r = f64.mul s.ftz d a b) (s.reg va) (s.reg vb)) ∧
    WritesRegister s (exec (.vdivF32 vd va vb) s) vd
      (Lanes32 (fun a b r => ∃ d, r = f32.div s.ftz d a b) (s.reg va) (s.reg vb)) ∧
    WritesRegister s (exec (.vdivF64 vd va vb) s) vd
      (Lanes64 (fun a b r => ∃ d, r = f64.div s.ftz d a b) (s.reg va) (s.reg vb))

/-- 41_vec_logic_minmax.md R181 to R184, R180: bit by bit, the same for every element type. -/
def Obligations.BitwiseResult : Prop :=
  ∀ (vd va vb : VReg) (s : State) (i : Instr) (op : Bool → Bool → Bool),
    ((i = .vandF32 vd va vb ∨ i = .vandF64 vd va vb ∨ i = .vandI32 vd va vb ∨ i = .vandI64 vd va vb) ∧
        op = (fun a b => a && b) ∨
      (i = .vandnF32 vd va vb ∨ i = .vandnF64 vd va vb ∨ i = .vandnI32 vd va vb ∨ i = .vandnI64 vd va vb) ∧
        op = (fun a b => !a && b) ∨
      (i = .vorF32 vd va vb ∨ i = .vorF64 vd va vb ∨ i = .vorI32 vd va vb ∨ i = .vorI64 vd va vb) ∧
        op = (fun a b => a || b) ∨
      (i = .vxorF32 vd va vb ∨ i = .vxorF64 vd va vb ∨ i = .vxorI32 vd va vb ∨ i = .vxorI64 vd va vb) ∧
        op = (fun a b => a ^^ b)) →
      WritesRegister s (exec i s) vd
        (fun v => ∀ k, k < 128 → v.getLsbD k = op ((s.reg va).getLsbD k) ((s.reg vb).getLsbD k))

/-- 41_vec_logic_minmax.md R185 to R189: the first source where the strict comparison holds, else the second, bit for
bit. -/
def Obligations.MinMaxResult : Prop :=
  ∀ (vd va vb : VReg) (s : State),
    WritesRegister s (exec (.vminF32 vd va vb) s) vd
      (Lanes32 (fun a b r => r = if f32.lt a b then a else b) (s.reg va) (s.reg vb)) ∧
    WritesRegister s (exec (.vminF64 vd va vb) s) vd
      (Lanes64 (fun a b r => r = if f64.lt a b then a else b) (s.reg va) (s.reg vb)) ∧
    WritesRegister s (exec (.vminI32 vd va vb) s) vd
      (Lanes32 (fun a b r => r = if a.toInt < b.toInt then a else b) (s.reg va) (s.reg vb)) ∧
    WritesRegister s (exec (.vminI64 vd va vb) s) vd
      (Lanes64 (fun a b r => r = if a.toInt < b.toInt then a else b) (s.reg va) (s.reg vb)) ∧
    WritesRegister s (exec (.vmaxF32 vd va vb) s) vd
      (Lanes32 (fun a b r => r = if f32.gt a b then a else b) (s.reg va) (s.reg vb)) ∧
    WritesRegister s (exec (.vmaxF64 vd va vb) s) vd
      (Lanes64 (fun a b r => r = if f64.gt a b then a else b) (s.reg va) (s.reg vb)) ∧
    WritesRegister s (exec (.vmaxI32 vd va vb) s) vd
      (Lanes32 (fun a b r => r = if b.toInt < a.toInt then a else b) (s.reg va) (s.reg vb)) ∧
    WritesRegister s (exec (.vmaxI64 vd va vb) s) vd
      (Lanes64 (fun a b r => r = if b.toInt < a.toInt then a else b) (s.reg va) (s.reg vb))

/-- 42_vec_compare_select.md R201 to R206, R210: all ones where the predicate holds of the lanes, else zero. -/
def Obligations.CompareMaskResult : Prop :=
  ∀ (vd va vb : VReg) (s : State),
    WritesRegister s (exec (.vcmpeqF32 vd va vb) s) vd
      (Lanes32 (fun a b r => r = if f32.eq a b then 0xFFFFFFFF else 0) (s.reg va) (s.reg vb)) ∧
    WritesRegister s (exec (.vcmpeqF64 vd va vb) s) vd
      (Lanes64 (fun a b r => r = if f64.eq a b then 0xFFFFFFFFFFFFFFFF else 0) (s.reg va) (s.reg vb)) ∧
    WritesRegister s (exec (.vcmpeqI32 vd va vb) s) vd
      (Lanes32 (fun a b r => r = if a = b then 0xFFFFFFFF else 0) (s.reg va) (s.reg vb)) ∧
    WritesRegister s (exec (.vcmpeqI64 vd va vb) s) vd
      (Lanes64 (fun a b r => r = if a = b then 0xFFFFFFFFFFFFFFFF else 0) (s.reg va) (s.reg vb)) ∧
    WritesRegister s (exec (.vcmpgtF32 vd va vb) s) vd
      (Lanes32 (fun a b r => r = if f32.gt a b then 0xFFFFFFFF else 0) (s.reg va) (s.reg vb)) ∧
    WritesRegister s (exec (.vcmpgtF64 vd va vb) s) vd
      (Lanes64 (fun a b r => r = if f64.gt a b then 0xFFFFFFFFFFFFFFFF else 0) (s.reg va) (s.reg vb)) ∧
    WritesRegister s (exec (.vcmpgtI32 vd va vb) s) vd
      (Lanes32 (fun a b r => r = if b.toInt < a.toInt then 0xFFFFFFFF else 0) (s.reg va) (s.reg vb)) ∧
    WritesRegister s (exec (.vcmpgtI64 vd va vb) s) vd
      (Lanes64 (fun a b r => r = if b.toInt < a.toInt then 0xFFFFFFFFFFFFFFFF else 0) (s.reg va) (s.reg vb)) ∧
    WritesRegister s (exec (.vcmpltF32 vd va vb) s) vd
      (Lanes32 (fun a b r => r = if f32.lt a b then 0xFFFFFFFF else 0) (s.reg va) (s.reg vb)) ∧
    WritesRegister s (exec (.vcmpltF64 vd va vb) s) vd
      (Lanes64 (fun a b r => r = if f64.lt a b then 0xFFFFFFFFFFFFFFFF else 0) (s.reg va) (s.reg vb)) ∧
    WritesRegister s (exec (.vcmpltI32 vd va vb) s) vd
      (Lanes32 (fun a b r => r = if a.toInt < b.toInt then 0xFFFFFFFF else 0) (s.reg va) (s.reg vb)) ∧
    WritesRegister s (exec (.vcmpltI64 vd va vb) s) vd
      (Lanes64 (fun a b r => r = if a.toInt < b.toInt then 0xFFFFFFFFFFFFFFFF else 0) (s.reg va) (s.reg vb))

/-- 42_vec_compare_select.md R207 to R209: 1.0 where the predicate holds of the lanes, else `+0.0`. -/
def Obligations.CompareTruthResult : Prop :=
  ∀ (vd va vb : VReg) (s : State),
    WritesRegister s (exec (.vteqF32 vd va vb) s) vd
      (Lanes32 (fun a b r => r = if f32.eq a b then 0x3F800000 else 0) (s.reg va) (s.reg vb)) ∧
    WritesRegister s (exec (.vteqF64 vd va vb) s) vd
      (Lanes64 (fun a b r => r = if f64.eq a b then 0x3FF0000000000000 else 0) (s.reg va) (s.reg vb)) ∧
    WritesRegister s (exec (.vtgtF32 vd va vb) s) vd
      (Lanes32 (fun a b r => r = if f32.gt a b then 0x3F800000 else 0) (s.reg va) (s.reg vb)) ∧
    WritesRegister s (exec (.vtgtF64 vd va vb) s) vd
      (Lanes64 (fun a b r => r = if f64.gt a b then 0x3FF0000000000000 else 0) (s.reg va) (s.reg vb)) ∧
    WritesRegister s (exec (.vtltF32 vd va vb) s) vd
      (Lanes32 (fun a b r => r = if f32.lt a b then 0x3F800000 else 0) (s.reg va) (s.reg vb)) ∧
    WritesRegister s (exec (.vtltF64 vd va vb) s) vd
      (Lanes64 (fun a b r => r = if f64.lt a b then 0x3FF0000000000000 else 0) (s.reg va) (s.reg vb))

/-- 42_vec_compare_select.md R211: each bit of the second source where the mask's bit is 1, of the first where it is
0, for every element type. -/
def Obligations.SelectResult : Prop :=
  ∀ (vd va vb vm : VReg) (s : State) (i : Instr),
    (i = .vselF32 vd va vb vm ∨ i = .vselF64 vd va vb vm ∨ i = .vselI32 vd va vb vm ∨ i = .vselI64 vd va vb vm) →
      WritesRegister s (exec i s) vd (fun v => ∀ k, k < 128 →
        v.getLsbD k = if (s.reg vm).getLsbD k then (s.reg vb).getLsbD k else (s.reg va).getLsbD k)

/-- 43_vec_mem_shuffle_convert.md R222: the 16 bytes at the address, lowest address in the least significant byte,
when they lie inside one region, for every element type; else `ERR_ADDR` and no register changes. -/
def Obligations.LoadResult : Prop :=
  ∀ (vd : VReg) (addr : Word) (s : State) (i : Instr),
    (i = .vlduF32 vd addr ∨ i = .vlduF64 vd addr ∨ i = .vlduI32 vd addr ∨ i = .vlduI64 vd addr) →
      let a := addr.toNat
      let inside := a + 15 ≤ 0x07FFF ∨ 0x08000 ≤ a ∧ a + 15 ≤ 0x09FFF ∨ 0x0A000 ≤ a ∧ a + 15 ≤ 0x0DFFF ∨
        0x0E000 ≤ a ∧ a + 15 ≤ 0x11FFF
      (inside → WritesRegister s (exec i s) vd
        (fun v => ∀ j, j < 16 → v.extractLsb' (8 * j) 8 = s.mem.byte (a + j))) ∧
      (¬ inside → VectorOutcome s (exec i s) (fun t => t = s.recorded .addr 0))

/-- 43_vec_mem_shuffle_convert.md R223: the register's 128 bits to the 16 bytes at the address, when they lie inside
INB or inside OUTB, for every element type; no other byte, no register and no status register but the error record
changes; else `ERR_ADDR` and no byte is written. -/
def Obligations.StoreResult : Prop :=
  ∀ (vs : VReg) (addr : Word) (s : State) (i : Instr),
    (i = .vstuF32 vs addr ∨ i = .vstuF64 vs addr ∨ i = .vstuI32 vs addr ∨ i = .vstuI64 vs addr) →
      let a := addr.toNat
      let inside := 0x0A000 ≤ a ∧ a + 15 ≤ 0x0DFFF ∨ 0x0E000 ≤ a ∧ a + 15 ≤ 0x11FFF
      (inside → VectorOutcome s (exec i s) (fun t =>
        (∀ j, j < 16 → t.mem.byte (a + j) = (s.reg vs).extractLsb' (8 * j) 8) ∧
        (∀ c, c < a ∨ a + 16 ≤ c → t.mem.byte c = s.mem.byte c) ∧
        t = { s with mem := t.mem, status := s.status.record .p .ok, output := .response .ok 0 })) ∧
      (¬ inside → VectorOutcome s (exec i s) (fun t => t = s.recorded .addr 0))

/-- 43_vec_mem_shuffle_convert.md R226, R227: the lanes the selector's fields name, two (one) from the first source
below two (one) from the second; a 64-bit selector with bits 7:2 not zero is `ERR_ILLEGAL`. -/
def Obligations.ShuffleResult : Prop :=
  ∀ (vd va vb : VReg) (imm8 : BitVec 8) (s : State) (i : Instr),
    (i = .vshufF32 vd va vb imm8 ∨ i = .vshufI32 vd va vb imm8 → WritesRegister s (exec i s) vd (fun v =>
      lane 32 v 0 = lane 32 (s.reg va) (imm8.toNat % 4) ∧ lane 32 v 1 = lane 32 (s.reg va) (imm8.toNat / 4 % 4) ∧
      lane 32 v 2 = lane 32 (s.reg vb) (imm8.toNat / 16 % 4) ∧ lane 32 v 3 = lane 32 (s.reg vb) (imm8.toNat / 64))) ∧
    (i = .vshufF64 vd va vb imm8 ∨ i = .vshufI64 vd va vb imm8 →
      (imm8.toNat < 4 → WritesRegister s (exec i s) vd (fun v =>
        lane 64 v 0 = lane 64 (s.reg va) (imm8.toNat % 2) ∧ lane 64 v 1 = lane 64 (s.reg vb) (imm8.toNat / 2))) ∧
      (4 ≤ imm8.toNat → s.port = .p → exec i s = .next (s.recorded .illegal 0)) ∧
      (4 ≤ imm8.toNat → s.port = .c → exec i s = .next (s.recorded .port 0)))

/-- 43_vec_mem_shuffle_convert.md R231, R234: each signed integer lane rounded to the float format; no flush mode
matters. -/
def Obligations.IntToFloatResult : Prop :=
  ∀ (vd va : VReg) (s : State),
    WritesRegister s (exec (.vcvtF32I32 vd va) s) vd (fun v => ∀ k, k < 4 →
      let n := (lane 32 (s.reg va) k).toInt
      f32.sign (lane 32 v k) = decide (n < 0) ∧ f32.Nearest (n.natAbs * 2 ^ 149) 1 (f32.mag (lane 32 v k))) ∧
    WritesRegister s (exec (.vcvtF64I64 vd va) s) vd (fun v => ∀ k, k < 2 →
      let n := (lane 64 (s.reg va) k).toInt
      f64.sign (lane 64 v k) = decide (n < 0) ∧ f64.Nearest (n.natAbs * 2 ^ 1074) 1 (f64.mag (lane 64 v k)))

/-- 43_vec_mem_shuffle_convert.md R232, R233, R235, R236, R230: a NaN gives 0, an infinity the end of the range, and a
finite value its truncation or its nearest integer (ties to even), saturated. -/
def Obligations.FloatToIntResult : Prop :=
  ∀ (vd va : VReg) (s : State),
    WritesRegister s (exec (.vcvttI32F32 vd va) s) vd (fun v => ∀ k, k < 4 →
      TruncatedTo 31 149 (f32.value (lane 32 (s.reg va) k)) (lane 32 v k).toInt) ∧
    WritesRegister s (exec (.vcvtrI32F32 vd va) s) vd (fun v => ∀ k, k < 4 →
      NearestIntTo 31 149 (f32.value (lane 32 (s.reg va) k)) (lane 32 v k).toInt) ∧
    WritesRegister s (exec (.vcvttI64F64 vd va) s) vd (fun v => ∀ k, k < 2 →
      TruncatedTo 63 1074 (f64.value (lane 64 (s.reg va) k)) (lane 64 v k).toInt) ∧
    WritesRegister s (exec (.vcvtrI64F64 vd va) s) vd (fun v => ∀ k, k < 2 →
      NearestIntTo 63 1074 (f64.value (lane 64 (s.reg va) k)) (lane 64 v k).toInt)

/-- 43_vec_mem_shuffle_convert.md R237, R238: the two 64-bit lanes narrowed under the ambient mode into the two low
32-bit lanes, the others `+0.0`; the two low 32-bit lanes widened. -/
def Obligations.NarrowWidenResult : Prop :=
  ∀ (vd va : VReg) (s : State),
    WritesRegister s (exec (.vcvtF32F64 vd va) s) vd (fun v =>
      (∀ k, k < 2 → ∃ d, lane 32 v k = narrow s.ftz d (lane 64 (s.reg va) k)) ∧ lane 32 v 2 = 0 ∧ lane 32 v 3 = 0) ∧
    WritesRegister s (exec (.vcvtF64F32 vd va) s) vd (fun v =>
      ∀ k, k < 2 → ∃ d, lane 64 v k = widen d (lane 32 (s.reg va) k))

/-! ### Engine commands: results and frames -/

/-- 47_perform_dispatch.md R320, R328, R329: NOP on either port, CLRDIAG on port C and WRFPM on port P have their
one effect; nothing else but the error record changes. -/
def Obligations.HousekeepingResult : Prop :=
  ∀ s : State,
    exec .nop s = .next { s with status := s.status.record s.port .ok, output := .response .ok 0 } ∧
    (∀ mask : BitVec 3, s.port = .c → exec (.clrdiag mask) s = .next
      { s with
        diag := { allocFail := s.diag.allocFail && !mask.getLsbD 0
                  srcShort := s.diag.srcShort && !mask.getLsbD 1
                  srcInvalid := s.diag.srcInvalid && !mask.getLsbD 2 }
        status := s.status.record .c .ok
        output := .response .ok 0 }) ∧
    (∀ mask : BitVec 3, s.port = .p → exec (.clrdiag mask) s = .next (s.recorded .port 0)) ∧
    (∀ z : Bool, s.port = .p → exec (.wrfpm z) s = .next
      { s with ftz := z, status := s.status.record .p .ok, output := .response .ok 0 }) ∧
    (∀ z : Bool, s.port = .c → exec (.wrfpm z) s = .next (s.recorded .port 0))

/-- 47_perform_dispatch.md R321, R322: a CONFIG whose four checks hold sets the configuration, restarts the cursor
and the window, and zeroes HIST unless the instance is inert; nothing else changes.  One whose checks do not all hold
is `ERR_BAD_CONFIG`. -/
def Obligations.ConfigResult : Prop :=
  ∀ (width : SampleWidth) (block maxBlock : BitVec 16) (s : State),
    let b := block.toNat
    let m := maxBlock.toNat
    let ok := 1 ≤ b ∧ b ≤ m ∧ m % b = 0 ∧ 4096 % b = 0 ∧ 2048 + m < 4096
    (s.port = .p → exec (.config width block maxBlock) s = .next (s.recorded .port 0)) ∧
    (s.port = .c → ¬ ok → exec (.config width block maxBlock) s = .next (s.recorded .badConfig 0)) ∧
    (s.port = .c → ok → ∃ t, exec (.config width block maxBlock) s = .next t ∧
      t.cfgBlock.toNat = b ∧ t.cfgMaxBlock.toNat = m ∧ t.inPos = 0 ∧ t.winStart = 0 ∧ t.winLen = 0 ∧
      t.status = { s.status with configured := true, simdSel := s.params.simdPresent, width := width, lastErrC := .ok } ∧
      (s.status.inert = false → ∀ i, i < 8192 → t.mem.hist i = 0) ∧
      (∀ a, 0x08000 ≤ a ∨ s.status.inert = true → t.mem.byte a = s.mem.byte a) ∧
      t = { s with mem := t.mem, status := t.status, cfgBlock := t.cfgBlock, cfgMaxBlock := t.cfgMaxBlock,
                   inPos := 0, winStart := 0, winLen := 0, output := .response .ok 0 })

/-- 44_impulse_loader.md R251 to R257: LOADIMP from a usable source on an instance that is not inert: the effective
length, the diagnostic, the impulse reversed at the end of its padded region with zeros everywhere else, the two
lengths and the response; no other byte and no other register changes. -/
def Obligations.LoadimpResult : Prop :=
  ∀ (explicit : Bool) (id off req chsel : Word) (s : State) (src : Source),
    s.port = .c → s.status.inert = false → sourceOf s.sources id = some src → src.channels ≠ 0 → src.format = 0 →
      ∃ t, exec (.loadimp explicit id off req chsel) s = .next t ∧
        let avail : Int := (src.frames.toNat : Int) - off.toNat
        let want : Int := if explicit then req.toNat else src.frames.toNat
        let len := t.impLen.toNat
        let pad := t.impPadLen.toNat - len
        (len : Int) = max 0 (min avail (min want 2044)) ∧
        t.impPadLen.toNat = 16 * ((len + 15) / 16) ∧
        (∀ i, i < len → t.mem.imp (pad + i) =
          sampleOf src (off.toNat + (len - 1 - i)) ((max chsel.toNat 1 - 1) % src.channels.toNat)) ∧
        (∀ k, k < 2048 → k < pad ∨ pad + len ≤ k → t.mem.imp k = 0) ∧
        (∀ a, a < 0x08000 ∨ 0x0A000 ≤ a → t.mem.byte a = s.mem.byte a) ∧
        t.diag = { s.diag with
          srcShort := s.diag.srcShort || (explicit && decide (req ≠ 0) && decide (avail < req.toNat)) } ∧
        t = { s with mem := t.mem, diag := t.diag, impLen := t.impLen, impPadLen := t.impPadLen,
                     status := s.status.record .c .ok, output := .response .ok t.impLen }

/-- 44_impulse_loader.md R252, R258: LOADIMP of a source that is missing, has no channel or another format loads an
impulse of length 0 and sets `SRC_INVALID`; on an inert instance LOADIMP has no effect; on port P it is refused. -/
def Obligations.LoadimpWithoutSource : Prop :=
  ∀ (explicit : Bool) (id off req chsel : Word) (s : State),
    (s.port = .p → exec (.loadimp explicit id off req chsel) s = .next (s.recorded .port 0)) ∧
    (s.port = .c → s.status.inert = true → exec (.loadimp explicit id off req chsel) s = .next (s.recorded .ok 0)) ∧
    (s.port = .c → s.status.inert = false →
      (∀ src, sourceOf s.sources id = some src → src.channels = 0 ∨ src.format ≠ 0) →
        ∃ t, exec (.loadimp explicit id off req chsel) s = .next t ∧ (∀ k, k < 2048 → t.mem.imp k = 0) ∧
          (∀ a, a < 0x08000 ∨ 0x0A000 ≤ a → t.mem.byte a = s.mem.byte a) ∧
          t = { s with mem := t.mem, diag := { s.diag with srcInvalid := true }, impLen := 0, impPadLen := 0,
                       status := s.status.record .c .ok, output := .response .ok 0 })

/-- 47_perform_dispatch.md R325, R326, R331, R333: PROCESS is refused before the first CONFIG; else it completes, with
every register but the cursor and the window as it was (the ambient numeric mode among them), and every byte outside
HIST and the output range of OUTB; under the other ambient mode it does the same. -/
def Obligations.ProcessCompletes : Prop :=
  ∀ s : State,
    (s.port = .c → exec .process s = .next (s.recorded .port 0)) ∧
    (s.port = .p → s.status.configured = false → exec .process s = .next (s.recorded .notConfigured 0)) ∧
    (s.port = .p → s.status.configured = true → Inv s → ∃ t, exec .process s = .next t ∧
      t = { s with mem := t.mem, inPos := t.inPos, winStart := t.winStart, winLen := t.winLen,
                   status := s.status.record .p .ok, output := .response .ok 0 } ∧
      (∀ a, 0x08000 ≤ a → a < 0x0E000 ∨ 0x0E000 + outputBytes s ≤ a → t.mem.byte a = s.mem.byte a) ∧
      ∀ z, exec .process { s with ftz := z } = .next { t with ftz := z })

/-- 45_history_ring.md R271, R272, R275: PROCESS on an instance that is not inert writes its input block at the cursor
in both halves of HIST and nowhere else in it, moves the cursor, and sets the window descriptor. -/
def Obligations.ProcessIngestsTheBlock : Prop :=
  ∀ s : State, Inv s → s.port = .p → s.status.configured = true → s.status.inert = false →
    ∃ t, exec .process s = .next t ∧
      let p := s.inPos.toNat
      let b := s.cfgBlock.toNat
      (∀ i, i < b → ∃ x, IsInputSample s i x ∧ t.mem.hist (p + i) = x ∧ t.mem.hist (p + 4096 + i) = x) ∧
      (∀ i, i < 4096 → i < p ∨ p + b ≤ i → t.mem.hist i = s.mem.hist i ∧ t.mem.hist (i + 4096) = s.mem.hist (i + 4096)) ∧
      t.inPos.toNat = (if 4096 ≤ p + b then 0 else p + b) ∧
      t.winStart.toNat = p + 4096 - s.impPadLen.toNat ∧ t.winLen.toNat = s.impPadLen.toNat + b

/-- 46_convolution_kernel.md R293 to R297, 47_perform_dispatch.md R325, R327: every output sample of PROCESS is the
selected kernel's sum over the window, in the kernel's order, under flush-to-zero, at the configured width.  That one
draw serves all operations of a sample is the model's inference (log 7). -/
def Obligations.ProcessComputesTheKernel : Prop :=
  ∀ s : State, Inv s → s.port = .p → s.status.configured = true → s.status.inert = false →
    ∃ t, exec .process s = .next t ∧ ∀ i, i < s.cfgBlock.toNat →
      ∃ d, IsOutputSample s.status.width t.mem i
        (kernelOutput t.mem s.status.simdSel d s.inPos.toNat s.impPadLen.toNat i)

/-- 47_perform_dispatch.md R332: on an inert instance PROCESS writes zeros to the output range of OUTB and nothing
else. -/
def Obligations.InertProcessIsSilent : Prop :=
  ∀ s : State, Inv s → s.port = .p → s.status.configured = true → s.status.inert = true →
    ∃ t, exec .process s = .next t ∧
      (∀ a, 0x0E000 ≤ a → a < 0x0E000 + outputBytes s → t.mem.byte a = 0) ∧
      (∀ a, a < 0x0E000 ∨ 0x0E000 + outputBytes s ≤ a → t.mem.byte a = s.mem.byte a) ∧
      t = { s with mem := t.mem, status := s.status.record .p .ok, output := .response .ok 0 }

/-! ### The stream and the convolution -/

/-- 45_history_ring.md R278: CONFIG starts an empty stream, every PROCESS appends its input block to the stream the
ring holds, and the window then reads the stream's last 4096 samples in order, zeros standing before the first.  On an
inert instance CONFIG starts an empty stream as well and PROCESS appends nothing (60_exceptions.md R365).  Reset starts
an empty stream, and every step but a reset, a CONFIG and a PROCESS that succeed keeps the stream. -/
def Obligations.RingHoldsTheStream : Prop :=
  (∀ (width : SampleWidth) (block maxBlock : BitVec 16) (s t : State), s.status.inert = false ∨ Inv s →
    exec (.config width block maxBlock) s = .next t → t.output = .response .ok 0 → RingHolds t []) ∧
  (∀ (s t : State) (xs : List Word), Inv s → s.status.inert = false → RingHolds s xs → exec .process s = .next t →
    t.output = .response .ok 0 →
      ∃ block : List Word, block.length = s.cfgBlock.toNat ∧ (∀ i, i < block.length → IsInputSample s i (block.getD i 0)) ∧
        RingHolds t (xs ++ block) ∧
        ∀ k, k < 4096 →
          t.mem.hist (s.inPos.toNat + block.length + k) = paddedStream (xs ++ block) ((xs ++ block).length + k)) ∧
  (∀ (s t : State) (xs : List Word), s.status.inert = true → RingHolds s xs → exec .process s = .next t →
    RingHolds t xs) ∧
  (∀ s t : State, s.Resets → step s = .next t → RingHolds t []) ∧
  ∀ (s t : State) (xs : List Word), RingHolds s xs → step s = .next t → ¬ s.Resets →
    (∀ i, s.Executes i → opcodeOf i = 0x01 ∨ opcodeOf i = 0x03 → t.output ≠ .response .ok 0) → RingHolds t xs

/-- 46_convolution_kernel.md R291: read as integers by any valuation that takes the zero pattern to 0, the sum over
the padded taps of the loaded impulse is the convolution of the source's samples with the window. -/
def Obligations.PaddedTapsConvolveTheSource : Prop :=
  ∀ (val : Word → Int) (explicit : Bool) (id off req chsel : Word) (s t : State) (src : Source) (p i : Nat),
    val 0 = 0 → s.port = .c → s.status.inert = false → sourceOf s.sources id = some src → src.channels ≠ 0 →
    src.format = 0 → exec (.loadimp explicit id off req chsel) s = .next t →
      ∑ j ∈ Finset.range t.impPadLen.toNat,
          val (t.mem.imp j) * val (t.mem.hist (p + 4096 + i + 1 + j - t.impPadLen.toNat)) =
        ∑ m ∈ Finset.range t.impLen.toNat,
          val (sampleOf src (off.toNat + m) ((max chsel.toNat 1 - 1) % src.channels.toNat)) *
            val (t.mem.hist (p + 4096 + i - m))

/-- 46_convolution_kernel.md R298: with no taps PROCESS writes `+0.0` to every output sample, at either width. -/
def Obligations.ZeroLengthIsSilent : Prop :=
  ∀ s : State, Inv s → s.port = .p → s.status.configured = true → s.impPadLen = 0 →
    ∃ t, exec .process s = .next t ∧
      ∀ a, 0x0E000 ≤ a → a < 0x0E000 + outputBytes s → t.mem.byte a = 0

/-- 46_convolution_kernel.md R299 (c), R302: with the identity impulse, no infinity and no NaN among the 15 samples of
history the window reads or in the input, the native path returns every normal input sample bit for bit, and `+0.0`
for a zero or a subnormal, on the SIMD and on the scalar path. -/
def Obligations.IdentityImpulseReturnsTheInput : Prop :=
  ∀ s : State, Inv s → s.port = .p → s.status.configured = true → s.status.inert = false → s.status.width = .native →
    s.impLen = 1 → s.mem.imp 15 = 0x3F800000 →
    (∀ k, k < 15 → f32.mag (s.mem.hist (s.inPos.toNat + 4081 + k)) < f32.infMag) →
    (∀ i, i < s.cfgBlock.toNat → f32.mag (s.mem.inb32 i) < f32.infMag) →
      ∃ t, exec .process s = .next t ∧ ∀ i, i < s.cfgBlock.toNat →
        t.mem.outb32 i = if f32.mag (s.mem.inb32 i) < 2 ^ 23 then 0 else s.mem.inb32 i

/-- 44_impulse_loader.md R262: two LOADIMP with the same operands under the same sources leave the same IMP and the
same lengths, whatever was loaded before. -/
def Obligations.LoadimpIsIdempotent : Prop :=
  ∀ (explicit : Bool) (id off req chsel : Word) (s s' t t' : State), s.port = .c → s'.port = .c →
    s.status.inert = false → s'.status.inert = false → s.sources = s'.sources →
    exec (.loadimp explicit id off req chsel) s = .next t → exec (.loadimp explicit id off req chsel) s' = .next t' →
      (∀ k, k < 2048 → t.mem.imp k = t'.mem.imp k) ∧ t.impLen = t'.impLen ∧ t.impPadLen = t'.impPadLen

/-! ### Floating point -/

/-- 40_vec_arith.md R152: for finite operands and results that are not exact zeros of a sum, `fadd`, `fmul` and
`fdiv` without flushing are the exact sum, product and quotient rounded to nearest even, with the sign of the exact
result, for binary32 and binary64. -/
def Obligations.FloatArithmeticIsCorrectlyRounded : Prop :=
  CorrectlyRounded f32 ∧ CorrectlyRounded f64

/-- 40_vec_arith.md R152: NaN operands and invalid operations give a quiet NaN, whatever is drawn; infinities, zero
divisors and exact zero sums give the values and signs the rule lists, whatever the flush mode. -/
def Obligations.FloatSpecialCases : Prop :=
  SpecialCases f32 ∧ SpecialCases f64

/-- 40_vec_arith.md R153: with the mode on, the result is the result with the mode off, or the zero of its sign where
that is a subnormal; the test is made on the rounded result. -/
def Obligations.FlushActsOnTheRoundedResult : Prop :=
  FlushesResults f32 ∧ FlushesResults f64 ∧
    ∀ (d : Dword) (x : Dword),
      (f32.Subnormal (narrow false d x) → narrow true d x = f32.zero (f32.sign (narrow false d x))) ∧
      (¬ f32.Subnormal (narrow false d x) → narrow true d x = narrow false d x)

/-- 42_vec_compare_select.md R200: greater is less with the operands exchanged; with a NaN no predicate holds; without
one exactly one of less, equal, greater does, `+0` equals `-0`, and finite values of one sign are ordered as their
magnitudes are. -/
def Obligations.FloatPredicatesOrderTheValues : Prop :=
  OrdersValues f32 ∧ OrdersValues f64

/-- 43_vec_mem_shuffle_convert.md R237, R238: a finite double is narrowed to the nearest binary32, ties to even,
keeping its sign; widening is exact; both keep an infinity and its sign, and give a quiet NaN for a NaN whatever is
drawn; narrowing a widened value gives it back, or the zero of its sign for a subnormal under flush-to-zero. -/
def Obligations.NarrowRoundsAndUndoesWiden : Prop :=
  (∀ (d x : Dword) (neg : Bool) (q : Nat), f64.value x = .fin neg q →
    f32.sign (narrow false d x) = neg ∧ f32.Nearest q (2 ^ 925) (f32.mag (narrow false d x))) ∧
  (∀ (z : Bool) (d x : Dword), (∀ neg, f64.value x = .inf neg → narrow z d x = f32.infinity neg) ∧
    (f64.value x = .nan → f32.Quiet (narrow z d x))) ∧
  (∀ (d : Dword) (x : Word), (∀ neg q, f32.value x = .fin neg q → f64.value (widen d x) = .fin neg (q * 2 ^ 925)) ∧
    (∀ neg, f32.value x = .inf neg → widen d x = f64.infinity neg) ∧
    (f32.value x = .nan → f64.Quiet (widen d x))) ∧
  ∀ (d e : Dword) (x : Word), f32.isNaN x = false →
    narrow false d (widen e x) = x ∧
    (f32.Subnormal x → narrow true d (widen e x) = f32.zero (f32.sign x)) ∧
    (¬ f32.Subnormal x → narrow true d (widen e x) = x)

/-! ### Laws between commands -/

/-- 41_vec_logic_minmax.md R190: the synthesis of integer minimum and maximum from a greater-than mask and
and/andnot/or leaves in the result register what VMIN and VMAX leave. -/
def Obligations.IntegerMinMaxEmulation : Prop :=
  ∀ (vd va vb g x y : VReg) (s s1 s2 s3 s4 t s2' s3' s4' t' : State), s.port = .p → s.params.simdPresent = true →
    g ≠ va → g ≠ vb → x ≠ va → x ≠ vb → x ≠ g → x ≠ y →
    exec (.vcmpgtI32 g va vb) s = .next s1 →
    exec (.vandI32 x g vb) s1 = .next s2 → exec (.vandnI32 y g va) s2 = .next s3 → exec (.vorI32 vd x y) s3 = .next s4 →
    exec (.vminI32 vd va vb) s = .next t →
    exec (.vandI32 x g va) s1 = .next s2' → exec (.vandnI32 y g vb) s2' = .next s3' →
    exec (.vorI32 vd x y) s3' = .next s4' → exec (.vmaxI32 vd va vb) s = .next t' →
      s4.reg vd = t.reg vd ∧ s4'.reg vd = t'.reg vd

/-- 42_vec_compare_select.md R212: the synthesis of select from and/andnot/or leaves what VSEL leaves, for every
mask. -/
def Obligations.SelectEmulation : Prop :=
  ∀ (vd va vb vm x y : VReg) (s s1 s2 s3 t : State), s.port = .p → s.params.simdPresent = true →
    x ≠ va → x ≠ vm → x ≠ y →
    exec (.vandF32 x vm vb) s = .next s1 → exec (.vandnF32 y vm va) s1 = .next s2 →
    exec (.vorF32 vd x y) s2 = .next s3 → exec (.vselF32 vd va vb vm) s = .next t → s3.reg vd = t.reg vd

/-- 42_vec_compare_select.md R207 to R209: a numeric truth value is the compare's mask ANDed with a vector of 1.0. -/
def Obligations.TruthIsMaskAndOne : Prop :=
  ∀ (vd va vb g o : VReg) (s s1 s2 s3 t : State) (compare truth : Instr),
    s.port = .p → s.params.simdPresent = true → o ≠ g →
    ((compare = .vcmpeqF32 g va vb ∧ truth = .vteqF32 vd va vb ∨
        compare = .vcmpgtF32 g va vb ∧ truth = .vtgtF32 vd va vb ∨
        compare = .vcmpltF32 g va vb ∧ truth = .vtltF32 vd va vb) →
      exec compare s = .next s1 → exec (.vbcastF32 o 0x3F800000) s1 = .next s2 →
      exec (.vandF32 vd g o) s2 = .next s3 → exec truth s = .next t → s3.reg vd = t.reg vd) ∧
    ((compare = .vcmpeqF64 g va vb ∧ truth = .vteqF64 vd va vb ∨
        compare = .vcmpgtF64 g va vb ∧ truth = .vtgtF64 vd va vb ∨
        compare = .vcmpltF64 g va vb ∧ truth = .vtltF64 vd va vb) →
      exec compare s = .next s1 → exec (.vbcastF64 o 0x3FF0000000000000) s1 = .next s2 →
      exec (.vandF64 vd g o) s2 = .next s3 → exec truth s = .next t → s3.reg vd = t.reg vd)

/-- 43_vec_mem_shuffle_convert.md R223: a store followed by a load of the same address returns the stored bits,
whatever the element types of the two. -/
def Obligations.StoreThenLoadReturnsTheBits : Prop :=
  ∀ (vs vd : VReg) (addr : Word) (s t u : State) (store load : Instr),
    (store = .vstuF32 vs addr ∨ store = .vstuF64 vs addr ∨ store = .vstuI32 vs addr ∨ store = .vstuI64 vs addr) →
    (load = .vlduF32 vd addr ∨ load = .vlduF64 vd addr ∨ load = .vlduI32 vd addr ∨ load = .vlduI64 vd addr) →
    exec store s = .next t → t.output = .response .ok 0 → exec load t = .next u →
      u.reg vd = s.reg vs ∧ u.output = .response .ok 0

/-! ### Rules about every command -/

/-- 20_memory.md R75, 60_exceptions.md R371: only CONFIG and PROCESS change a byte of HIST, only LOADIMP a byte of
IMP, only PROCESS and the stores a byte of OUTB, only the stores a byte of INB. -/
def Obligations.OnlyTheirCommandsWriteTheRegions : Prop :=
  ∀ (i : Instr) (s t : State) (a : Nat), Inv s → exec i s = .next t → t.mem.byte a ≠ s.mem.byte a →
    (a < 0x08000 ∧ (opcodeOf i = 0x01 ∨ opcodeOf i = 0x03)) ∨
      (0x08000 ≤ a ∧ a < 0x0A000 ∧ opcodeOf i = 0x02) ∨
      (0x0A000 ≤ a ∧ a < 0x0E000 ∧ opcodeOf i = 0x23) ∨
      (0x0E000 ≤ a ∧ a < 0x12000 ∧ (opcodeOf i = 0x03 ∨ opcodeOf i = 0x23))

/-- 10_state.md R26, 40_vec_arith.md R150 (h): the engine commands change no vector register, and a VectorOps command
changes no status register but its error record. -/
def Obligations.EngineAndVectorStateAreSeparate : Prop :=
  ∀ (i : Instr) (s t : State), exec i s = .next t →
    (opcodeOf i < 0x10 → t.v = s.v) ∧
    (0x10 ≤ opcodeOf i → t = { s with v := t.v, mem := t.mem, output := t.output,
                                      status := s.status.record s.port (t.status.lastErr s.port) })

/-- 10_state.md R44, 60_exceptions.md R360: a diagnostic bit stays set until a CLRDIAG that selects it; `ALLOC_FAIL`
is set by no command; the other two only by LOADIMP. -/
def Obligations.DiagnosticsAreSticky : Prop :=
  ∀ (i : Instr) (s t : State), exec i s = .next t →
    ((∀ mask, i ≠ .clrdiag mask) → (s.diag.allocFail = true → t.diag.allocFail = true) ∧
      (s.diag.srcShort = true → t.diag.srcShort = true) ∧ (s.diag.srcInvalid = true → t.diag.srcInvalid = true)) ∧
    (t.diag.allocFail = true → s.diag.allocFail = true) ∧
    (t.diag.srcShort = true → s.diag.srcShort = true ∨ opcodeOf i = 0x02) ∧
    (t.diag.srcInvalid = true → s.diag.srcInvalid = true ∨ opcodeOf i = 0x02)

/-- 10_state.md R43, 70_reset_and_hazards.md R391: no step but reset changes `INERT`, none at all changes the
instance's parameters, and only CONFIG and reset change the dispatch axes and the block sizes: no other command, and no
other step. -/
def Obligations.ConfigurationChangesOnlyByConfigAndReset : Prop :=
  (∀ s t : State, step s = .next t → t.params = s.params ∧
    (t.status.inert = s.status.inert ∨ s.Resets) ∧
    (¬ s.Resets → (∀ i, s.Executes i → opcodeOf i ≠ 0x01) →
      t.cfgBlock = s.cfgBlock ∧ t.cfgMaxBlock = s.cfgMaxBlock ∧ t.status.configured = s.status.configured ∧
        t.status.simdSel = s.status.simdSel ∧ t.status.width = s.status.width)) ∧
  (∀ (i : Instr) (s t : State), exec i s = .next t → opcodeOf i ≠ 0x01 →
    t.cfgBlock = s.cfgBlock ∧ t.cfgMaxBlock = s.cfgMaxBlock ∧ t.status.configured = s.status.configured ∧
      t.status.simdSel = s.status.simdSel ∧ t.status.width = s.status.width)

/-- 00_scope.md R12, 41_vec_logic_minmax.md R190, 42_vec_compare_select.md R212, 70_reset_and_hazards.md R403: no
command's outcome depends on the instruction family, and none but LOADIMP's on the sample sources. -/
def Obligations.CommandsDependOnNoFamilyAndOnlyLoadimpOnSources : Prop :=
  ∀ (i : Instr) (s t : State), exec i s = .next t →
    (∀ fam : Family, exec i { s with params := { s.params with family := fam } } =
      .next { t with params := { t.params with family := fam } }) ∧
    (∀ dir : Directory, opcodeOf i ≠ 0x02 → exec i { s with sources := dir } = .next { t with sources := dir })
end

