-- ==== Sys2Proof/Laws/Encoding.lean ====
section
/-! SUPPORT. The fields of a `word0` put together from its fields (30_encoding.md R111). -/

namespace Sys2Proof

/-- The values the fields of `word0` can hold. -/
structure FieldsFit (op et vd va vb low8 : Nat) : Prop where
  op : op < 256
  et : et < 4
  vd : vd < 16
  va : va < 16
  vb : vb < 16
  low8 : low8 < 256

variable {op et vd va vb low8 : Nat}

theorem word0_toNat (h : FieldsFit op et vd va vb low8) : (word0 op et vd va vb low8).toNat =
    op * 2 ^ 24 + et * 2 ^ 22 + vd * 2 ^ 16 + va * 2 ^ 12 + vb * 2 ^ 8 + low8 := by
  obtain ⟨h1, h2, h3, h4, h5, h6⟩ := h
  rw [word0, BitVec.toNat_ofNat]
  omega

theorem word0_op (h : FieldsFit op et vd va vb low8) : field (word0 op et vd va vb low8) 31 24 = op := by
  rw [field, word0_toNat h]
  obtain ⟨h1, h2, h3, h4, h5, h6⟩ := h
  omega

theorem word0_et (h : FieldsFit op et vd va vb low8) : field (word0 op et vd va vb low8) 23 22 = et := by
  rw [field, word0_toNat h]
  obtain ⟨h1, h2, h3, h4, h5, h6⟩ := h
  omega

theorem word0_z1 (h : FieldsFit op et vd va vb low8) : field (word0 op et vd va vb low8) 21 20 = 0 := by
  rw [field, word0_toNat h]
  obtain ⟨h1, h2, h3, h4, h5, h6⟩ := h
  omega

theorem word0_low8 (h : FieldsFit op et vd va vb low8) : field (word0 op et vd va vb low8) 7 0 = low8 := by
  rw [field, word0_toNat h]
  obtain ⟨h1, h2, h3, h4, h5, h6⟩ := h
  omega

theorem word0_vd (h : FieldsFit op et vd va vb low8) : (regField (word0 op et vd va vb low8) 16).val = vd := by
  rw [regField, word0_toNat h, Fin.val_ofNat]
  obtain ⟨h1, h2, h3, h4, h5, h6⟩ := h
  omega

theorem word0_va (h : FieldsFit op et vd va vb low8) : (regField (word0 op et vd va vb low8) 12).val = va := by
  rw [regField, word0_toNat h, Fin.val_ofNat]
  obtain ⟨h1, h2, h3, h4, h5, h6⟩ := h
  omega

theorem word0_vb (h : FieldsFit op et vd va vb low8) : (regField (word0 op et vd va vb low8) 8).val = vb := by
  rw [regField, word0_toNat h, Fin.val_ofNat]
  obtain ⟨h1, h2, h3, h4, h5, h6⟩ := h
  omega

theorem ElemType.code_lt (t : ElemType) : t.code < 4 := by cases t <;> decide

/-- The element type read back from its code. -/
theorem word0_elemType (t : ElemType) (h : FieldsFit op t.code vd va vb low8) :
    elemType (word0 op t.code vd va vb low8) = t := by
  rw [elemType, word0_et h]
  cases t <;> rfl

/-- Registers fit their fields. -/
theorem fieldsFit_regs (t : ElemType) (vd va vb : VReg) (hop : op < 256) (hlow : low8 < 256) :
    FieldsFit op t.code vd.val va.val vb.val low8 :=
  ⟨hop, t.code_lt, vd.isLt, va.isLt, vb.isLt, hlow⟩

/-- The operand words of a `word0` by its opcode and element type (30_encoding.md R129). -/
theorem operandWords_word0 (h : FieldsFit op et vd va vb low8) : operandWords (word0 op et vd va vb low8) =
    if op = 0x01 then 1
    else if op = 0x02 then 4
    else if op = 0x10 then (if et = 1 ∨ et = 3 then 2 else 1)
    else if op = 0x22 ∨ op = 0x23 then 1
    else 0 := by
  rw [operandWords, word0_op h, word0_et h]

end Sys2Proof
end

