-- ==== Sys2Proof/Laws/Memory.lean ====
section
/-! SUPPORT. What the memory operations do, byte by byte, and that every one keeps the canonical form. -/

namespace Sys2Proof.Machine

open Sys2Proof.Config

/-! ### One byte -/

theorem Memory.byte_of_not_listed (m : Memory) (a : Nat) (h : ∀ c ∈ m, c.1 ≠ a) : m.byte a = unlisted a := by
  induction m with
  | nil => rfl
  | cons c m ih =>
    have hc : c.1 ≠ a := h c (by simp)
    simp [Memory.byte, hc, ih fun d hd => h d (by simp [hd])]

theorem Memory.erase_not_listed (m : Memory) (a : Nat) : ∀ c ∈ m.erase a, c.1 ≠ a := by
  intro c hc
  simpa [Memory.erase] using (List.mem_filter.mp hc).2

theorem Memory.byte_erase (m : Memory) (a c : Nat) :
    (m.erase a).byte c = if c = a then unlisted c else m.byte c := by
  by_cases h : c = a
  · subst h
    simpa using Memory.byte_of_not_listed _ _ (Memory.erase_not_listed m c)
  · rw [if_neg h]
    induction m with
    | nil => rfl
    | cons d m ih =>
      by_cases hd : d.1 = a
      · have : d.1 ≠ c := fun e => h (e ▸ hd)
        simpa [Memory.erase, Memory.byte, hd, Ne.symm h] using ih
      · by_cases hdc : d.1 = c
        · simp [Memory.erase, Memory.byte, hdc, h]
        · simpa [Memory.erase, Memory.byte, hd, hdc] using ih

theorem Memory.byte_insert (m : Memory) (a : Nat) (b : Byte) (c : Nat) (h : ∀ d ∈ m, d.1 ≠ a) :
    (m.insert a b).byte c = if c = a then b else m.byte c := by
  induction m with
  | nil => simp [Memory.insert, Memory.byte, eq_comm]
  | cons d m ih =>
    obtain ⟨k, x⟩ := d
    have hk : k ≠ a := h (k, x) (by simp)
    have ih' := ih fun d hd => h d (by simp [hd])
    by_cases hlt : a < k
    · simp [Memory.insert, hlt, Memory.byte, eq_comm]
    · by_cases hkc : k = c
      · subst hkc
        simp [Memory.insert, hlt, Memory.byte, hk]
      · simp [Memory.insert, hlt, Memory.byte, hkc, ih']

/-- Reading after writing one byte. -/
theorem Memory.byte_setByte (m : Memory) {a : Nat} (b : Byte) (c : Nat) (h : a < mapEnd) :
    (m.setByte a b).byte c = if c = a then b else m.byte c := by
  unfold Memory.setByte
  rw [if_pos h]
  split
  · rename_i hb
    rw [Memory.byte_erase, hb]
    split <;> simp_all
  · rw [Memory.byte_insert _ _ _ _ (Memory.erase_not_listed m a), Memory.byte_erase]
    split <;> rfl

/-- A write of an address no byte exists at changes nothing. -/
theorem Memory.setByte_unmapped (m : Memory) {a : Nat} (b : Byte) (h : mapEnd ≤ a) : m.setByte a b = m := by
  simp [Memory.setByte, Nat.not_lt.mpr h]

/-- A byte at another address is never changed by a write of one byte. -/
theorem Memory.byte_setByte_other (m : Memory) {a c : Nat} (b : Byte) (h : c ≠ a) :
    (m.setByte a b).byte c = m.byte c := by
  by_cases ha : a < mapEnd
  · simp [Memory.byte_setByte m b c ha, h]
  · simp [Memory.setByte_unmapped m b (Nat.not_lt.mp ha)]

/-! ### The canonical form -/

theorem Memory.wf_nil : Memory.wf [] := by simp [Memory.wf]

theorem Memory.wf_filter {m : Memory} (p : Host.Cell → Bool) (h : Memory.wf m) : Memory.wf (m.filter p) :=
  ⟨h.1.filter p, fun c hc => h.2 c (List.mem_filter.mp hc).1⟩

theorem Memory.mem_insert (m : Memory) (a : Nat) (b : Byte) (c : Host.Cell) (h : c ∈ m.insert a b) :
    c = (a, b) ∨ c ∈ m := by
  induction m with
  | nil => simpa [Memory.insert] using h
  | cons d m ih =>
    obtain ⟨k, x⟩ := d
    by_cases hlt : a < k
    · simpa [Memory.insert, hlt] using h
    · simp only [Memory.insert, hlt, if_false, List.mem_cons] at h ⊢
      rcases h with h | h
      · exact .inr (.inl h)
      · rcases ih h with h | h
        · exact .inl h
        · exact .inr (.inr h)

theorem Memory.insert_rising (m : Memory) (a : Nat) (b : Byte) (h : m.Pairwise fun c d => c.1 < d.1)
    (hne : ∀ c ∈ m, c.1 ≠ a) : (m.insert a b).Pairwise fun c d => c.1 < d.1 := by
  induction m with
  | nil => simp [Memory.insert]
  | cons d m ih =>
    obtain ⟨k, x⟩ := d
    have hk : k ≠ a := hne (k, x) (by simp)
    rw [List.pairwise_cons] at h
    by_cases hlt : a < k
    · rw [Memory.insert, if_pos hlt]
      simp only [List.pairwise_cons, List.mem_cons, forall_eq_or_imp]
      exact ⟨⟨hlt, fun c hc => Nat.lt_trans hlt (h.1 c hc)⟩, h⟩
    · simp only [Memory.insert, hlt, if_false, List.pairwise_cons]
      refine ⟨fun c hc => ?_, ih h.2 fun c hc => hne c (by simp [hc])⟩
      rcases Memory.mem_insert m a b c hc with hc | hc
      · subst hc
        show k < a
        omega
      · exact h.1 c hc

/-- Writing one byte keeps the canonical form. -/
theorem Memory.wf_setByte {m : Memory} (a : Nat) (b : Byte) (h : Memory.wf m) : Memory.wf (m.setByte a b) := by
  unfold Memory.setByte
  split
  · rename_i ha
    split
    · exact Memory.wf_filter _ h
    · rename_i hb
      have he := Memory.wf_filter (fun c => c.1 != a) h
      refine ⟨Memory.insert_rising _ a b he.1 (Memory.erase_not_listed m a), fun c hc => ?_⟩
      rcases Memory.mem_insert _ a b c hc with hc | hc
      · subst hc
        exact ⟨ha, hb⟩
      · exact he.2 c hc
  · exact h

theorem Memory.wf_write32 {m : Memory} (a : Nat) (x : Word) (h : Memory.wf m) : Memory.wf (m.write32 a x) :=
  Memory.wf_setByte _ _ (Memory.wf_setByte _ _ (Memory.wf_setByte _ _ (Memory.wf_setByte _ _ h)))

theorem Memory.wf_write64 {m : Memory} (a : Nat) (x : Dword) (h : Memory.wf m) : Memory.wf (m.write64 a x) :=
  Memory.wf_write32 _ _ (Memory.wf_write32 _ _ h)

theorem Memory.wf_write128 {m : Memory} (a : Nat) (x : Vec) (h : Memory.wf m) : Memory.wf (m.write128 a x) :=
  Memory.wf_write64 _ _ (Memory.wf_write64 _ _ h)

theorem Memory.wf_zeroRegion {m : Memory} (r : Region) (h : Memory.wf m) : Memory.wf (m.zeroRegion r) :=
  Memory.wf_filter _ h

theorem Memory.wf_writeSamples {m : Memory} (a : Nat) (xs : List Word) (h : Memory.wf m) :
    Memory.wf (m.writeSamples a xs) := by
  induction xs generalizing m a with
  | nil => exact h
  | cons x xs ih => exact ih (a + 4) (Memory.wf_write32 a x h)

theorem Memory.wf_writeSamples64 {m : Memory} (a : Nat) (xs : List Dword) (h : Memory.wf m) :
    Memory.wf (m.writeSamples64 a xs) := by
  induction xs generalizing m a with
  | nil => exact h
  | cons x xs ih => exact ih (a + 8) (Memory.wf_write64 a x h)

theorem Memory.wf_mirrorWrite {m : Memory} (q : Nat) (xs : List Word) (h : Memory.wf m) :
    Memory.wf (m.mirrorWrite xs q) := by
  induction xs generalizing m q with
  | nil => exact h
  | cons x xs ih =>
    rw [Memory.mirrorWrite]
    apply ih
    unfold Memory.mirrorSample
    apply Memory.wf_write32
    exact Memory.wf_write32 _ x h

theorem Memory.wf_installImpulse {m : Memory} (xs : List Word) (h : Memory.wf m) : Memory.wf (m.installImpulse xs) :=
  Memory.wf_writeSamples _ _ (Memory.wf_zeroRegion .imp h)

/-- Right after reset the memory has its canonical form. -/
theorem reset_mem_wf (params : Params) (dir : Directory) : Memory.wf (State.resetWith params dir).mem :=
  Memory.wf_nil

/-! ### Wider accesses, byte by byte (20_memory.md R70 to R72) -/

/-- A 4-byte write leaves every byte outside its four alone. -/
theorem Memory.byte_write32_outside (m : Memory) {a c : Nat} (x : Word) (h : c < a ∨ a + 4 ≤ c) :
    (m.write32 a x).byte c = m.byte c := by
  unfold Memory.write32
  rw [byte_setByte_other _ _ (by omega), byte_setByte_other _ _ (by omega), byte_setByte_other _ _ (by omega),
    byte_setByte_other _ _ (by omega)]

theorem Memory.byte_write64_outside (m : Memory) {a c : Nat} (x : Dword) (h : c < a ∨ a + 8 ≤ c) :
    (m.write64 a x).byte c = m.byte c := by
  unfold Memory.write64
  rw [byte_write32_outside _ _ (by omega), byte_write32_outside _ _ (by omega)]

/-- A 16-byte write leaves every byte outside its sixteen alone. -/
theorem Memory.byte_write128_outside (m : Memory) {a c : Nat} (x : Vec) (h : c < a ∨ a + 16 ≤ c) :
    (m.write128 a x).byte c = m.byte c := by
  unfold Memory.write128
  rw [byte_write64_outside _ _ (by omega), byte_write64_outside _ _ (by omega)]

/-- A sequence of 4-byte writes leaves every byte outside its range alone. -/
theorem Memory.byte_writeSamples_outside (m : Memory) {a c : Nat} (xs : List Word)
    (h : c < a ∨ a + 4 * xs.length ≤ c) : (m.writeSamples a xs).byte c = m.byte c := by
  induction xs generalizing m a with
  | nil => rfl
  | cons x xs ih =>
    simp only [List.length_cons] at h
    rw [Memory.writeSamples, ih _ (by omega), byte_write32_outside _ _ (by omega)]

theorem Memory.byte_writeSamples64_outside (m : Memory) {a c : Nat} (xs : List Dword)
    (h : c < a ∨ a + 8 * xs.length ≤ c) : (m.writeSamples64 a xs).byte c = m.byte c := by
  induction xs generalizing m a with
  | nil => rfl
  | cons x xs ih =>
    simp only [List.length_cons] at h
    rw [Memory.writeSamples64, ih _ (by omega), byte_write64_outside _ _ (by omega)]

/-- Zeroing a region: its bytes read as unlisted ones, the others as before. -/
theorem Memory.byte_zeroRegion (m : Memory) (r : Region) (c : Nat) :
    (m.zeroRegion r).byte c = if r.base ≤ c ∧ c ≤ r.last then unlisted c else m.byte c := by
  induction m with
  | nil => simp [Memory.zeroRegion, Memory.byte]
  | cons d m ih =>
    obtain ⟨k, x⟩ := d
    simp only [Memory.zeroRegion] at ih ⊢
    by_cases hk : r.base ≤ k ∧ k ≤ r.last
    · rw [List.filter_cons_of_neg (by simp [hk.1, hk.2]), ih]
      by_cases hkc : k = c
      · simp [← hkc, hk.1, hk.2]
      · simp [Memory.byte, hkc]
    · rw [List.filter_cons_of_pos (by simp; omega)]
      by_cases hkc : k = c
      · subst hkc
        rw [if_neg hk]
        simp [Memory.byte]
      · rw [Memory.byte, if_neg hkc, Memory.byte, if_neg hkc]
        exact ih

/-- The four bytes of a 4-byte write, least significant first. -/
theorem Memory.byte_write32 (m : Memory) {a : Nat} (x : Word) (k : Nat) (hk : k < 4) (h : a + 4 ≤ mapEnd) :
    (m.write32 a x).byte (a + k) = x.extractLsb' (8 * k) 8 := by
  have h0 : a < mapEnd := by omega
  have h1 : a + 1 < mapEnd := by omega
  have h2 : a + 2 < mapEnd := by omega
  have h3 : a + 3 < mapEnd := by omega
  unfold Memory.write32
  rw [byte_setByte _ _ _ h3, byte_setByte _ _ _ h2, byte_setByte _ _ _ h1, byte_setByte _ _ _ h0]
  have hk' : k = 0 ∨ k = 1 ∨ k = 2 ∨ k = 3 := by omega
  rcases hk' with rfl | rfl | rfl | rfl <;> simp

/-- Two memories that agree on four bytes read the same word there. -/
theorem Memory.read32_congr {m m' : Memory} {a : Nat} (h : ∀ c, a ≤ c → c < a + 4 → m'.byte c = m.byte c) :
    m'.read32 a = m.read32 a := by
  unfold Memory.read32
  rw [h (a + 3) (by omega) (by omega), h (a + 2) (by omega) (by omega), h (a + 1) (by omega) (by omega),
    h a (by omega) (by omega)]

/-- Two memories that agree on eight bytes read the same doubleword there. -/
theorem Memory.read64_congr {m m' : Memory} {a : Nat} (h : ∀ c, a ≤ c → c < a + 8 → m'.byte c = m.byte c) :
    m'.read64 a = m.read64 a := by
  unfold Memory.read64
  rw [Memory.read32_congr fun c h1 h2 => h c (by omega) (by omega),
    Memory.read32_congr fun c h1 h2 => h c (by omega) (by omega)]

theorem Memory.word_of_bytes (x : Word) :
    x.extractLsb' 24 8 ++ x.extractLsb' 16 8 ++ x.extractLsb' 8 8 ++ x.extractLsb' 0 8 = x := by
  ext i hi
  simp only [BitVec.getElem_append, BitVec.getElem_extractLsb']
  split
  · rw [BitVec.getLsbD_eq_getElem (by omega)]; congr 1; omega
  · split
    · rw [BitVec.getLsbD_eq_getElem (by omega)]; congr 1; omega
    · split
      · rw [BitVec.getLsbD_eq_getElem (by omega)]; congr 1; omega
      · rw [BitVec.getLsbD_eq_getElem (by omega)]; congr 1; omega

/-- Reading a word just written. -/
theorem Memory.read32_write32 (m : Memory) {a : Nat} (x : Word) (h : a + 4 ≤ mapEnd) :
    (m.write32 a x).read32 a = x := by
  have e3 := byte_write32 m x 3 (by omega) h
  have e2 := byte_write32 m x 2 (by omega) h
  have e1 := byte_write32 m x 1 (by omega) h
  have e0 := byte_write32 m x 0 (by omega) h
  simp only [Nat.add_zero, Nat.mul_zero, Nat.reduceMul] at e0 e1 e2 e3
  unfold Memory.read32
  rw [e0, e1, e2, e3]
  exact Memory.word_of_bytes x

/-- Reading a word elsewhere. -/
theorem Memory.read32_write32_outside (m : Memory) {a c : Nat} (x : Word) (h : c + 4 ≤ a ∨ a + 4 ≤ c) :
    (m.write32 a x).read32 c = m.read32 c :=
  Memory.read32_congr fun d h1 h2 => byte_write32_outside m x (by omega)

theorem Memory.halves (x : Dword) : x.extractLsb' 32 32 ++ x.extractLsb' 0 32 = x := by
  ext i hi
  simp only [BitVec.getElem_append, BitVec.getElem_extractLsb']
  split
  · rw [BitVec.getLsbD_eq_getElem (by omega)]; congr 1; omega
  · rw [BitVec.getLsbD_eq_getElem (by omega)]; congr 1; omega

/-- Reading a doubleword just written. -/
theorem Memory.read64_write64 (m : Memory) {a : Nat} (x : Dword) (h : a + 8 ≤ mapEnd) :
    (m.write64 a x).read64 a = x := by
  unfold Memory.read64 Memory.write64
  rw [read32_write32 _ _ (by omega), read32_write32_outside _ _ (by omega), read32_write32 _ _ (by omega)]
  exact Memory.halves x

/-- Reading a doubleword elsewhere. -/
theorem Memory.read64_write64_outside (m : Memory) {a c : Nat} (x : Dword) (h : c + 8 ≤ a ∨ a + 8 ≤ c) :
    (m.write64 a x).read64 c = m.read64 c :=
  Memory.read64_congr fun d h1 h2 => byte_write64_outside m x (by omega)

theorem Memory.quarters (x : Vec) : x.extractLsb' 64 64 ++ x.extractLsb' 0 64 = x := by
  ext i hi
  simp only [BitVec.getElem_append, BitVec.getElem_extractLsb']
  split
  · rw [BitVec.getLsbD_eq_getElem (by omega)]; congr 1; omega
  · rw [BitVec.getLsbD_eq_getElem (by omega)]; congr 1; omega

/-- Reading 16 bytes just written (43_vec_mem_shuffle_convert.md R223). -/
theorem Memory.read128_write128 (m : Memory) {a : Nat} (x : Vec) (h : a + 16 ≤ mapEnd) :
    (m.write128 a x).read128 a = x := by
  unfold Memory.read128 Memory.write128
  rw [read64_write64 _ _ (by omega), read64_write64_outside _ _ (by omega), read64_write64 _ _ (by omega)]
  exact Memory.quarters x

/-- Sample `i` of a block just written. -/
theorem Memory.read32_writeSamples (m : Memory) {a : Nat} (xs : List Word) (i : Nat) (hi : i < xs.length)
    (h : a + 4 * xs.length ≤ mapEnd) : (m.writeSamples a xs).read32 (a + 4 * i) = xs[i] := by
  induction xs generalizing m a i with
  | nil => simp at hi
  | cons x xs ih =>
    simp only [List.length_cons] at h hi
    cases i with
    | zero =>
      rw [Memory.writeSamples, Memory.read32_congr fun c h1 h2 => byte_writeSamples_outside _ xs (by omega)]
      simpa using read32_write32 m x (by omega)
    | succ i =>
      have := ih (m.write32 a x) (a := a + 4) i (by omega) (by omega)
      rw [Memory.writeSamples, show a + 4 * (i + 1) = a + 4 + 4 * i by omega, this]
      rfl

/-- Sample `i` of a 64-bit block just written. -/
theorem Memory.read64_writeSamples64 (m : Memory) {a : Nat} (xs : List Dword) (i : Nat) (hi : i < xs.length)
    (h : a + 8 * xs.length ≤ mapEnd) : (m.writeSamples64 a xs).read64 (a + 8 * i) = xs[i] := by
  induction xs generalizing m a i with
  | nil => simp at hi
  | cons x xs ih =>
    simp only [List.length_cons] at h hi
    cases i with
    | zero =>
      rw [Memory.writeSamples64, Memory.read64_congr fun c h1 h2 => byte_writeSamples64_outside _ xs (by omega)]
      simpa using read64_write64 m x (by omega)
    | succ i =>
      have := ih (m.write64 a x) (a := a + 8) i (by omega) (by omega)
      rw [Memory.writeSamples64, show a + 8 * (i + 1) = a + 8 + 8 * i by omega, this]
      rfl

/-! ### The mirrored write (45_history_ring.md R271) -/

/-- The mirrored write leaves every byte outside its two ranges alone. -/
theorem Memory.byte_mirrorWrite_outside (m : Memory) (xs : List Word) (q : Nat) {c : Nat}
    (h1 : c < 4 * q ∨ 4 * (q + xs.length) ≤ c)
    (h2 : c < 4 * (q + histHalf) ∨ 4 * (q + histHalf + xs.length) ≤ c) :
    (m.mirrorWrite xs q).byte c = m.byte c := by
  induction xs generalizing m q with
  | nil => rfl
  | cons x xs ih =>
    simp only [List.length_cons] at h1 h2
    have hb : Region.hist.base = 0 := rfl
    rw [Memory.mirrorWrite, ih _ _ (by omega) (by omega), Memory.mirrorSample, byte_write32_outside _ _ (by omega),
      byte_write32_outside _ _ (by omega)]

/-- Both copies of sample `i` of a block just written inside one half of the ring. -/
theorem Memory.hist_mirrorWrite (m : Memory) (q : Nat) (xs : List Word) (i : Nat) (hi : i < xs.length)
    (h : q + xs.length ≤ histHalf) :
    (m.mirrorWrite xs q).hist (q + i) = xs[i] ∧ (m.mirrorWrite xs q).hist (q + i + histHalf) = xs[i] := by
  have hb : Region.hist.base = 0 := rfl
  have hh : histHalf = 4096 := rfl
  have hm : mapEnd = 73728 := rfl
  induction xs generalizing m q i with
  | nil => simp at hi
  | cons x xs ih =>
    simp only [List.length_cons] at h hi
    cases i with
    | zero =>
      rw [Memory.mirrorWrite, Memory.hist, Memory.hist]
      simp only [Nat.add_zero, List.getElem_cons_zero]
      constructor
      · rw [Memory.read32_congr fun c h1 h2 => byte_mirrorWrite_outside _ xs (q + 1) (by omega) (by omega), Memory.mirrorSample,
          read32_write32_outside _ _ (by omega), read32_write32 _ _ (by omega)]
      · rw [Memory.read32_congr fun c h1 h2 => byte_mirrorWrite_outside _ xs (q + 1) (by omega) (by omega), Memory.mirrorSample,
          read32_write32 _ _ (by omega)]
    | succ i =>
      rw [Memory.mirrorWrite, show q + (i + 1) = q + 1 + i by omega, List.getElem_cons_succ]
      exact ih _ (q + 1) i (by omega) (by omega)

end Sys2Proof.Machine
end

