-- ==== Sys2Proof/Laws/State.lean ====
section
/-! SUPPORT. One lemma per field per named update of the state, true by rfl, so that no proof unfolds a record update. -/

namespace Sys2Proof.Machine

open Sys2Proof.Config

variable (s : State)

/-! `setReg` -/

@[simp] theorem State.setReg_v (r : VReg) (x : Vec) : (s.setReg r x).v = s.v.set r x := rfl
@[simp] theorem State.setReg_mem (r : VReg) (x : Vec) : (s.setReg r x).mem = s.mem := rfl
@[simp] theorem State.setReg_status (r : VReg) (x : Vec) : (s.setReg r x).status = s.status := rfl
@[simp] theorem State.setReg_diag (r : VReg) (x : Vec) : (s.setReg r x).diag = s.diag := rfl
@[simp] theorem State.setReg_cfgBlock (r : VReg) (x : Vec) : (s.setReg r x).cfgBlock = s.cfgBlock := rfl
@[simp] theorem State.setReg_cfgMaxBlock (r : VReg) (x : Vec) : (s.setReg r x).cfgMaxBlock = s.cfgMaxBlock := rfl
@[simp] theorem State.setReg_impLen (r : VReg) (x : Vec) : (s.setReg r x).impLen = s.impLen := rfl
@[simp] theorem State.setReg_impPadLen (r : VReg) (x : Vec) : (s.setReg r x).impPadLen = s.impPadLen := rfl
@[simp] theorem State.setReg_inPos (r : VReg) (x : Vec) : (s.setReg r x).inPos = s.inPos := rfl
@[simp] theorem State.setReg_winStart (r : VReg) (x : Vec) : (s.setReg r x).winStart = s.winStart := rfl
@[simp] theorem State.setReg_winLen (r : VReg) (x : Vec) : (s.setReg r x).winLen = s.winLen := rfl
@[simp] theorem State.setReg_ftz (r : VReg) (x : Vec) : (s.setReg r x).ftz = s.ftz := rfl
@[simp] theorem State.setReg_params (r : VReg) (x : Vec) : (s.setReg r x).params = s.params := rfl
@[simp] theorem State.setReg_sources (r : VReg) (x : Vec) : (s.setReg r x).sources = s.sources := rfl
@[simp] theorem State.setReg_schedule (r : VReg) (x : Vec) : (s.setReg r x).schedule = s.schedule := rfl
@[simp] theorem State.setReg_queueC (r : VReg) (x : Vec) : (s.setReg r x).queueC = s.queueC := rfl
@[simp] theorem State.setReg_queueP (r : VReg) (x : Vec) : (s.setReg r x).queueP = s.queueP := rfl
@[simp] theorem State.setReg_port (r : VReg) (x : Vec) : (s.setReg r x).port = s.port := rfl
@[simp] theorem State.setReg_output (r : VReg) (x : Vec) : (s.setReg r x).output = s.output := rfl
@[simp] theorem State.setReg_draws (r : VReg) (x : Vec) : (s.setReg r x).draws = s.draws := rfl

/-! `setMem` -/

@[simp] theorem State.setMem_v (m : Memory) : (s.setMem m).v = s.v := rfl
@[simp] theorem State.setMem_mem (m : Memory) : (s.setMem m).mem = m := rfl
@[simp] theorem State.setMem_status (m : Memory) : (s.setMem m).status = s.status := rfl
@[simp] theorem State.setMem_diag (m : Memory) : (s.setMem m).diag = s.diag := rfl
@[simp] theorem State.setMem_cfgBlock (m : Memory) : (s.setMem m).cfgBlock = s.cfgBlock := rfl
@[simp] theorem State.setMem_cfgMaxBlock (m : Memory) : (s.setMem m).cfgMaxBlock = s.cfgMaxBlock := rfl
@[simp] theorem State.setMem_impLen (m : Memory) : (s.setMem m).impLen = s.impLen := rfl
@[simp] theorem State.setMem_impPadLen (m : Memory) : (s.setMem m).impPadLen = s.impPadLen := rfl
@[simp] theorem State.setMem_inPos (m : Memory) : (s.setMem m).inPos = s.inPos := rfl
@[simp] theorem State.setMem_winStart (m : Memory) : (s.setMem m).winStart = s.winStart := rfl
@[simp] theorem State.setMem_winLen (m : Memory) : (s.setMem m).winLen = s.winLen := rfl
@[simp] theorem State.setMem_ftz (m : Memory) : (s.setMem m).ftz = s.ftz := rfl
@[simp] theorem State.setMem_params (m : Memory) : (s.setMem m).params = s.params := rfl
@[simp] theorem State.setMem_sources (m : Memory) : (s.setMem m).sources = s.sources := rfl
@[simp] theorem State.setMem_schedule (m : Memory) : (s.setMem m).schedule = s.schedule := rfl
@[simp] theorem State.setMem_queueC (m : Memory) : (s.setMem m).queueC = s.queueC := rfl
@[simp] theorem State.setMem_queueP (m : Memory) : (s.setMem m).queueP = s.queueP := rfl
@[simp] theorem State.setMem_port (m : Memory) : (s.setMem m).port = s.port := rfl
@[simp] theorem State.setMem_output (m : Memory) : (s.setMem m).output = s.output := rfl
@[simp] theorem State.setMem_draws (m : Memory) : (s.setMem m).draws = s.draws := rfl

/-! `setFtz` -/

@[simp] theorem State.setFtz_v (z : Bool) : (s.setFtz z).v = s.v := rfl
@[simp] theorem State.setFtz_mem (z : Bool) : (s.setFtz z).mem = s.mem := rfl
@[simp] theorem State.setFtz_status (z : Bool) : (s.setFtz z).status = s.status := rfl
@[simp] theorem State.setFtz_diag (z : Bool) : (s.setFtz z).diag = s.diag := rfl
@[simp] theorem State.setFtz_cfgBlock (z : Bool) : (s.setFtz z).cfgBlock = s.cfgBlock := rfl
@[simp] theorem State.setFtz_cfgMaxBlock (z : Bool) : (s.setFtz z).cfgMaxBlock = s.cfgMaxBlock := rfl
@[simp] theorem State.setFtz_impLen (z : Bool) : (s.setFtz z).impLen = s.impLen := rfl
@[simp] theorem State.setFtz_impPadLen (z : Bool) : (s.setFtz z).impPadLen = s.impPadLen := rfl
@[simp] theorem State.setFtz_inPos (z : Bool) : (s.setFtz z).inPos = s.inPos := rfl
@[simp] theorem State.setFtz_winStart (z : Bool) : (s.setFtz z).winStart = s.winStart := rfl
@[simp] theorem State.setFtz_winLen (z : Bool) : (s.setFtz z).winLen = s.winLen := rfl
@[simp] theorem State.setFtz_ftz (z : Bool) : (s.setFtz z).ftz = z := rfl
@[simp] theorem State.setFtz_params (z : Bool) : (s.setFtz z).params = s.params := rfl
@[simp] theorem State.setFtz_sources (z : Bool) : (s.setFtz z).sources = s.sources := rfl
@[simp] theorem State.setFtz_schedule (z : Bool) : (s.setFtz z).schedule = s.schedule := rfl
@[simp] theorem State.setFtz_queueC (z : Bool) : (s.setFtz z).queueC = s.queueC := rfl
@[simp] theorem State.setFtz_queueP (z : Bool) : (s.setFtz z).queueP = s.queueP := rfl
@[simp] theorem State.setFtz_port (z : Bool) : (s.setFtz z).port = s.port := rfl
@[simp] theorem State.setFtz_output (z : Bool) : (s.setFtz z).output = s.output := rfl
@[simp] theorem State.setFtz_draws (z : Bool) : (s.setFtz z).draws = s.draws := rfl

/-! `setDiag` -/

@[simp] theorem State.setDiag_v (d : Diag) : (s.setDiag d).v = s.v := rfl
@[simp] theorem State.setDiag_mem (d : Diag) : (s.setDiag d).mem = s.mem := rfl
@[simp] theorem State.setDiag_status (d : Diag) : (s.setDiag d).status = s.status := rfl
@[simp] theorem State.setDiag_diag (d : Diag) : (s.setDiag d).diag = d := rfl
@[simp] theorem State.setDiag_cfgBlock (d : Diag) : (s.setDiag d).cfgBlock = s.cfgBlock := rfl
@[simp] theorem State.setDiag_cfgMaxBlock (d : Diag) : (s.setDiag d).cfgMaxBlock = s.cfgMaxBlock := rfl
@[simp] theorem State.setDiag_impLen (d : Diag) : (s.setDiag d).impLen = s.impLen := rfl
@[simp] theorem State.setDiag_impPadLen (d : Diag) : (s.setDiag d).impPadLen = s.impPadLen := rfl
@[simp] theorem State.setDiag_inPos (d : Diag) : (s.setDiag d).inPos = s.inPos := rfl
@[simp] theorem State.setDiag_winStart (d : Diag) : (s.setDiag d).winStart = s.winStart := rfl
@[simp] theorem State.setDiag_winLen (d : Diag) : (s.setDiag d).winLen = s.winLen := rfl
@[simp] theorem State.setDiag_ftz (d : Diag) : (s.setDiag d).ftz = s.ftz := rfl
@[simp] theorem State.setDiag_params (d : Diag) : (s.setDiag d).params = s.params := rfl
@[simp] theorem State.setDiag_sources (d : Diag) : (s.setDiag d).sources = s.sources := rfl
@[simp] theorem State.setDiag_schedule (d : Diag) : (s.setDiag d).schedule = s.schedule := rfl
@[simp] theorem State.setDiag_queueC (d : Diag) : (s.setDiag d).queueC = s.queueC := rfl
@[simp] theorem State.setDiag_queueP (d : Diag) : (s.setDiag d).queueP = s.queueP := rfl
@[simp] theorem State.setDiag_port (d : Diag) : (s.setDiag d).port = s.port := rfl
@[simp] theorem State.setDiag_output (d : Diag) : (s.setDiag d).output = s.output := rfl
@[simp] theorem State.setDiag_draws (d : Diag) : (s.setDiag d).draws = s.draws := rfl

/-! `answer` -/

@[simp] theorem State.answer_v (o : Output) : (s.answer o).v = s.v := rfl
@[simp] theorem State.answer_mem (o : Output) : (s.answer o).mem = s.mem := rfl
@[simp] theorem State.answer_status (o : Output) : (s.answer o).status = s.status := rfl
@[simp] theorem State.answer_diag (o : Output) : (s.answer o).diag = s.diag := rfl
@[simp] theorem State.answer_cfgBlock (o : Output) : (s.answer o).cfgBlock = s.cfgBlock := rfl
@[simp] theorem State.answer_cfgMaxBlock (o : Output) : (s.answer o).cfgMaxBlock = s.cfgMaxBlock := rfl
@[simp] theorem State.answer_impLen (o : Output) : (s.answer o).impLen = s.impLen := rfl
@[simp] theorem State.answer_impPadLen (o : Output) : (s.answer o).impPadLen = s.impPadLen := rfl
@[simp] theorem State.answer_inPos (o : Output) : (s.answer o).inPos = s.inPos := rfl
@[simp] theorem State.answer_winStart (o : Output) : (s.answer o).winStart = s.winStart := rfl
@[simp] theorem State.answer_winLen (o : Output) : (s.answer o).winLen = s.winLen := rfl
@[simp] theorem State.answer_ftz (o : Output) : (s.answer o).ftz = s.ftz := rfl
@[simp] theorem State.answer_params (o : Output) : (s.answer o).params = s.params := rfl
@[simp] theorem State.answer_sources (o : Output) : (s.answer o).sources = s.sources := rfl
@[simp] theorem State.answer_schedule (o : Output) : (s.answer o).schedule = s.schedule := rfl
@[simp] theorem State.answer_queueC (o : Output) : (s.answer o).queueC = s.queueC := rfl
@[simp] theorem State.answer_queueP (o : Output) : (s.answer o).queueP = s.queueP := rfl
@[simp] theorem State.answer_port (o : Output) : (s.answer o).port = s.port := rfl
@[simp] theorem State.answer_output (o : Output) : (s.answer o).output = o := rfl
@[simp] theorem State.answer_draws (o : Output) : (s.answer o).draws = s.draws := rfl

/-! `complete` -/

@[simp] theorem State.complete_v (x : Word) : (s.complete x).v = s.v := rfl
@[simp] theorem State.complete_mem (x : Word) : (s.complete x).mem = s.mem := rfl
@[simp] theorem State.complete_status (x : Word) : (s.complete x).status = s.status.record s.port .ok := rfl
@[simp] theorem State.complete_diag (x : Word) : (s.complete x).diag = s.diag := rfl
@[simp] theorem State.complete_cfgBlock (x : Word) : (s.complete x).cfgBlock = s.cfgBlock := rfl
@[simp] theorem State.complete_cfgMaxBlock (x : Word) : (s.complete x).cfgMaxBlock = s.cfgMaxBlock := rfl
@[simp] theorem State.complete_impLen (x : Word) : (s.complete x).impLen = s.impLen := rfl
@[simp] theorem State.complete_impPadLen (x : Word) : (s.complete x).impPadLen = s.impPadLen := rfl
@[simp] theorem State.complete_inPos (x : Word) : (s.complete x).inPos = s.inPos := rfl
@[simp] theorem State.complete_winStart (x : Word) : (s.complete x).winStart = s.winStart := rfl
@[simp] theorem State.complete_winLen (x : Word) : (s.complete x).winLen = s.winLen := rfl
@[simp] theorem State.complete_ftz (x : Word) : (s.complete x).ftz = s.ftz := rfl
@[simp] theorem State.complete_params (x : Word) : (s.complete x).params = s.params := rfl
@[simp] theorem State.complete_sources (x : Word) : (s.complete x).sources = s.sources := rfl
@[simp] theorem State.complete_schedule (x : Word) : (s.complete x).schedule = s.schedule := rfl
@[simp] theorem State.complete_queueC (x : Word) : (s.complete x).queueC = s.queueC := rfl
@[simp] theorem State.complete_queueP (x : Word) : (s.complete x).queueP = s.queueP := rfl
@[simp] theorem State.complete_port (x : Word) : (s.complete x).port = s.port := rfl
@[simp] theorem State.complete_output (x : Word) : (s.complete x).output = .response .ok x := rfl
@[simp] theorem State.complete_draws (x : Word) : (s.complete x).draws = s.draws := rfl

/-! `refused` -/

@[simp] theorem State.refused_v (e : ErrCode) : (s.refused e).v = s.v := rfl
@[simp] theorem State.refused_mem (e : ErrCode) : (s.refused e).mem = s.mem := rfl
@[simp] theorem State.refused_status (e : ErrCode) : (s.refused e).status = s.status.record s.port e := rfl
@[simp] theorem State.refused_diag (e : ErrCode) : (s.refused e).diag = s.diag := rfl
@[simp] theorem State.refused_cfgBlock (e : ErrCode) : (s.refused e).cfgBlock = s.cfgBlock := rfl
@[simp] theorem State.refused_cfgMaxBlock (e : ErrCode) : (s.refused e).cfgMaxBlock = s.cfgMaxBlock := rfl
@[simp] theorem State.refused_impLen (e : ErrCode) : (s.refused e).impLen = s.impLen := rfl
@[simp] theorem State.refused_impPadLen (e : ErrCode) : (s.refused e).impPadLen = s.impPadLen := rfl
@[simp] theorem State.refused_inPos (e : ErrCode) : (s.refused e).inPos = s.inPos := rfl
@[simp] theorem State.refused_winStart (e : ErrCode) : (s.refused e).winStart = s.winStart := rfl
@[simp] theorem State.refused_winLen (e : ErrCode) : (s.refused e).winLen = s.winLen := rfl
@[simp] theorem State.refused_ftz (e : ErrCode) : (s.refused e).ftz = s.ftz := rfl
@[simp] theorem State.refused_params (e : ErrCode) : (s.refused e).params = s.params := rfl
@[simp] theorem State.refused_sources (e : ErrCode) : (s.refused e).sources = s.sources := rfl
@[simp] theorem State.refused_schedule (e : ErrCode) : (s.refused e).schedule = s.schedule := rfl
@[simp] theorem State.refused_queueC (e : ErrCode) : (s.refused e).queueC = s.queueC := rfl
@[simp] theorem State.refused_queueP (e : ErrCode) : (s.refused e).queueP = s.queueP := rfl
@[simp] theorem State.refused_port (e : ErrCode) : (s.refused e).port = s.port := rfl
@[simp] theorem State.refused_output (e : ErrCode) : (s.refused e).output = .response e 0 := rfl
@[simp] theorem State.refused_draws (e : ErrCode) : (s.refused e).draws = s.draws := rfl

/-! `installImpulse` -/

@[simp] theorem State.installImpulse_v (xs : List Word) : (s.installImpulse xs).v = s.v := rfl
@[simp] theorem State.installImpulse_mem (xs : List Word) : (s.installImpulse xs).mem = s.mem.installImpulse xs := rfl
@[simp] theorem State.installImpulse_status (xs : List Word) : (s.installImpulse xs).status = s.status := rfl
@[simp] theorem State.installImpulse_diag (xs : List Word) : (s.installImpulse xs).diag = s.diag := rfl
@[simp] theorem State.installImpulse_cfgBlock (xs : List Word) : (s.installImpulse xs).cfgBlock = s.cfgBlock := rfl
@[simp] theorem State.installImpulse_cfgMaxBlock (xs : List Word) : (s.installImpulse xs).cfgMaxBlock = s.cfgMaxBlock := rfl
@[simp] theorem State.installImpulse_impLen (xs : List Word) : (s.installImpulse xs).impLen = BitVec.ofNat 32 xs.length := rfl
@[simp] theorem State.installImpulse_impPadLen (xs : List Word) : (s.installImpulse xs).impPadLen = BitVec.ofNat 32 (paddedLength xs.length) := rfl
@[simp] theorem State.installImpulse_inPos (xs : List Word) : (s.installImpulse xs).inPos = s.inPos := rfl
@[simp] theorem State.installImpulse_winStart (xs : List Word) : (s.installImpulse xs).winStart = s.winStart := rfl
@[simp] theorem State.installImpulse_winLen (xs : List Word) : (s.installImpulse xs).winLen = s.winLen := rfl
@[simp] theorem State.installImpulse_ftz (xs : List Word) : (s.installImpulse xs).ftz = s.ftz := rfl
@[simp] theorem State.installImpulse_params (xs : List Word) : (s.installImpulse xs).params = s.params := rfl
@[simp] theorem State.installImpulse_sources (xs : List Word) : (s.installImpulse xs).sources = s.sources := rfl
@[simp] theorem State.installImpulse_schedule (xs : List Word) : (s.installImpulse xs).schedule = s.schedule := rfl
@[simp] theorem State.installImpulse_queueC (xs : List Word) : (s.installImpulse xs).queueC = s.queueC := rfl
@[simp] theorem State.installImpulse_queueP (xs : List Word) : (s.installImpulse xs).queueP = s.queueP := rfl
@[simp] theorem State.installImpulse_port (xs : List Word) : (s.installImpulse xs).port = s.port := rfl
@[simp] theorem State.installImpulse_output (xs : List Word) : (s.installImpulse xs).output = s.output := rfl
@[simp] theorem State.installImpulse_draws (xs : List Word) : (s.installImpulse xs).draws = s.draws := rfl

/-! `ingest` -/

@[simp] theorem State.ingest_v (xs : List Word) : (s.ingest xs).v = s.v := rfl
@[simp] theorem State.ingest_mem (xs : List Word) : (s.ingest xs).mem = s.mem.mirrorWrite xs s.inPos.toNat := rfl
@[simp] theorem State.ingest_status (xs : List Word) : (s.ingest xs).status = s.status := rfl
@[simp] theorem State.ingest_diag (xs : List Word) : (s.ingest xs).diag = s.diag := rfl
@[simp] theorem State.ingest_cfgBlock (xs : List Word) : (s.ingest xs).cfgBlock = s.cfgBlock := rfl
@[simp] theorem State.ingest_cfgMaxBlock (xs : List Word) : (s.ingest xs).cfgMaxBlock = s.cfgMaxBlock := rfl
@[simp] theorem State.ingest_impLen (xs : List Word) : (s.ingest xs).impLen = s.impLen := rfl
@[simp] theorem State.ingest_impPadLen (xs : List Word) : (s.ingest xs).impPadLen = s.impPadLen := rfl
@[simp] theorem State.ingest_inPos (xs : List Word) : (s.ingest xs).inPos = BitVec.ofNat 32 (nextCursor s.inPos.toNat s.cfgBlock.toNat) := rfl
@[simp] theorem State.ingest_winStart (xs : List Word) : (s.ingest xs).winStart = BitVec.ofNat 32 (s.inPos.toNat + histHalf - s.impPadLen.toNat) := rfl
@[simp] theorem State.ingest_winLen (xs : List Word) : (s.ingest xs).winLen = BitVec.ofNat 32 (s.impPadLen.toNat + s.cfgBlock.toNat) := rfl
@[simp] theorem State.ingest_ftz (xs : List Word) : (s.ingest xs).ftz = s.ftz := rfl
@[simp] theorem State.ingest_params (xs : List Word) : (s.ingest xs).params = s.params := rfl
@[simp] theorem State.ingest_sources (xs : List Word) : (s.ingest xs).sources = s.sources := rfl
@[simp] theorem State.ingest_schedule (xs : List Word) : (s.ingest xs).schedule = s.schedule := rfl
@[simp] theorem State.ingest_queueC (xs : List Word) : (s.ingest xs).queueC = s.queueC := rfl
@[simp] theorem State.ingest_queueP (xs : List Word) : (s.ingest xs).queueP = s.queueP := rfl
@[simp] theorem State.ingest_port (xs : List Word) : (s.ingest xs).port = s.port := rfl
@[simp] theorem State.ingest_output (xs : List Word) : (s.ingest xs).output = s.output := rfl
@[simp] theorem State.ingest_draws (xs : List Word) : (s.ingest xs).draws = s.draws := rfl

/-! `configure` -/

@[simp] theorem State.configure_v (width : SampleWidth) (b mb : BitVec 16) : (s.configure width b mb).v = s.v := rfl
@[simp] theorem State.configure_mem (width : SampleWidth) (b mb : BitVec 16) : (s.configure width b mb).mem = if s.status.inert then s.mem else s.mem.zeroRegion .hist := rfl
@[simp] theorem State.configure_status (width : SampleWidth) (b mb : BitVec 16) : (s.configure width b mb).status = { s.status with width := width, simdSel := s.params.simdPresent, configured := true } := rfl
@[simp] theorem State.configure_diag (width : SampleWidth) (b mb : BitVec 16) : (s.configure width b mb).diag = s.diag := rfl
@[simp] theorem State.configure_cfgBlock (width : SampleWidth) (b mb : BitVec 16) : (s.configure width b mb).cfgBlock = b.setWidth 32 := rfl
@[simp] theorem State.configure_cfgMaxBlock (width : SampleWidth) (b mb : BitVec 16) : (s.configure width b mb).cfgMaxBlock = mb.setWidth 32 := rfl
@[simp] theorem State.configure_impLen (width : SampleWidth) (b mb : BitVec 16) : (s.configure width b mb).impLen = s.impLen := rfl
@[simp] theorem State.configure_impPadLen (width : SampleWidth) (b mb : BitVec 16) : (s.configure width b mb).impPadLen = s.impPadLen := rfl
@[simp] theorem State.configure_inPos (width : SampleWidth) (b mb : BitVec 16) : (s.configure width b mb).inPos = 0 := rfl
@[simp] theorem State.configure_winStart (width : SampleWidth) (b mb : BitVec 16) : (s.configure width b mb).winStart = 0 := rfl
@[simp] theorem State.configure_winLen (width : SampleWidth) (b mb : BitVec 16) : (s.configure width b mb).winLen = 0 := rfl
@[simp] theorem State.configure_ftz (width : SampleWidth) (b mb : BitVec 16) : (s.configure width b mb).ftz = s.ftz := rfl
@[simp] theorem State.configure_params (width : SampleWidth) (b mb : BitVec 16) : (s.configure width b mb).params = s.params := rfl
@[simp] theorem State.configure_sources (width : SampleWidth) (b mb : BitVec 16) : (s.configure width b mb).sources = s.sources := rfl
@[simp] theorem State.configure_schedule (width : SampleWidth) (b mb : BitVec 16) : (s.configure width b mb).schedule = s.schedule := rfl
@[simp] theorem State.configure_queueC (width : SampleWidth) (b mb : BitVec 16) : (s.configure width b mb).queueC = s.queueC := rfl
@[simp] theorem State.configure_queueP (width : SampleWidth) (b mb : BitVec 16) : (s.configure width b mb).queueP = s.queueP := rfl
@[simp] theorem State.configure_port (width : SampleWidth) (b mb : BitVec 16) : (s.configure width b mb).port = s.port := rfl
@[simp] theorem State.configure_output (width : SampleWidth) (b mb : BitVec 16) : (s.configure width b mb).output = s.output := rfl
@[simp] theorem State.configure_draws (width : SampleWidth) (b mb : BitVec 16) : (s.configure width b mb).draws = s.draws := rfl

/-! `setQueue` -/

@[simp] theorem State.setQueue_v (port : Port) (q : List Packet) : (s.setQueue port q).v = s.v := by
  cases port <;> rfl
@[simp] theorem State.setQueue_mem (port : Port) (q : List Packet) : (s.setQueue port q).mem = s.mem := by
  cases port <;> rfl
@[simp] theorem State.setQueue_status (port : Port) (q : List Packet) : (s.setQueue port q).status = s.status := by
  cases port <;> rfl
@[simp] theorem State.setQueue_diag (port : Port) (q : List Packet) : (s.setQueue port q).diag = s.diag := by
  cases port <;> rfl
@[simp] theorem State.setQueue_cfgBlock (port : Port) (q : List Packet) : (s.setQueue port q).cfgBlock = s.cfgBlock := by
  cases port <;> rfl
@[simp] theorem State.setQueue_cfgMaxBlock (port : Port) (q : List Packet) : (s.setQueue port q).cfgMaxBlock = s.cfgMaxBlock := by
  cases port <;> rfl
@[simp] theorem State.setQueue_impLen (port : Port) (q : List Packet) : (s.setQueue port q).impLen = s.impLen := by
  cases port <;> rfl
@[simp] theorem State.setQueue_impPadLen (port : Port) (q : List Packet) : (s.setQueue port q).impPadLen = s.impPadLen := by
  cases port <;> rfl
@[simp] theorem State.setQueue_inPos (port : Port) (q : List Packet) : (s.setQueue port q).inPos = s.inPos := by
  cases port <;> rfl
@[simp] theorem State.setQueue_winStart (port : Port) (q : List Packet) : (s.setQueue port q).winStart = s.winStart := by
  cases port <;> rfl
@[simp] theorem State.setQueue_winLen (port : Port) (q : List Packet) : (s.setQueue port q).winLen = s.winLen := by
  cases port <;> rfl
@[simp] theorem State.setQueue_ftz (port : Port) (q : List Packet) : (s.setQueue port q).ftz = s.ftz := by
  cases port <;> rfl
@[simp] theorem State.setQueue_params (port : Port) (q : List Packet) : (s.setQueue port q).params = s.params := by
  cases port <;> rfl
@[simp] theorem State.setQueue_sources (port : Port) (q : List Packet) : (s.setQueue port q).sources = s.sources := by
  cases port <;> rfl
@[simp] theorem State.setQueue_schedule (port : Port) (q : List Packet) : (s.setQueue port q).schedule = s.schedule := by
  cases port <;> rfl
@[simp] theorem State.setQueue_port (port : Port) (q : List Packet) : (s.setQueue port q).port = s.port := by
  cases port <;> rfl
@[simp] theorem State.setQueue_output (port : Port) (q : List Packet) : (s.setQueue port q).output = s.output := by
  cases port <;> rfl
@[simp] theorem State.setQueue_draws (port : Port) (q : List Packet) : (s.setQueue port q).draws = s.draws := by
  cases port <;> rfl
@[simp] theorem State.setQueue_queue (port : Port) (q : List Packet) : (s.setQueue port q).queue port = q := by
  cases port <;> rfl

/-- A port's queue is untouched by the other port's. -/
theorem State.setQueue_queue_other {port other : Port} (h : other ≠ port) (q : List Packet) :
    (s.setQueue port q).queue other = s.queue other := by
  cases port <;> cases other <;> first | rfl | exact absurd rfl h

/-! `taking` -/

@[simp] theorem State.taking_v (pt : Port) (rest : List Packet) : (s.taking pt rest).v = s.v := by
  cases pt <;> rfl
@[simp] theorem State.taking_mem (pt : Port) (rest : List Packet) : (s.taking pt rest).mem = s.mem := by
  cases pt <;> rfl
@[simp] theorem State.taking_status (pt : Port) (rest : List Packet) : (s.taking pt rest).status = s.status := by
  cases pt <;> rfl
@[simp] theorem State.taking_diag (pt : Port) (rest : List Packet) : (s.taking pt rest).diag = s.diag := by
  cases pt <;> rfl
@[simp] theorem State.taking_cfgBlock (pt : Port) (rest : List Packet) : (s.taking pt rest).cfgBlock = s.cfgBlock := by
  cases pt <;> rfl
@[simp] theorem State.taking_cfgMaxBlock (pt : Port) (rest : List Packet) : (s.taking pt rest).cfgMaxBlock = s.cfgMaxBlock := by
  cases pt <;> rfl
@[simp] theorem State.taking_impLen (pt : Port) (rest : List Packet) : (s.taking pt rest).impLen = s.impLen := by
  cases pt <;> rfl
@[simp] theorem State.taking_impPadLen (pt : Port) (rest : List Packet) : (s.taking pt rest).impPadLen = s.impPadLen := by
  cases pt <;> rfl
@[simp] theorem State.taking_inPos (pt : Port) (rest : List Packet) : (s.taking pt rest).inPos = s.inPos := by
  cases pt <;> rfl
@[simp] theorem State.taking_winStart (pt : Port) (rest : List Packet) : (s.taking pt rest).winStart = s.winStart := by
  cases pt <;> rfl
@[simp] theorem State.taking_winLen (pt : Port) (rest : List Packet) : (s.taking pt rest).winLen = s.winLen := by
  cases pt <;> rfl
@[simp] theorem State.taking_ftz (pt : Port) (rest : List Packet) : (s.taking pt rest).ftz = s.ftz := by
  cases pt <;> rfl
@[simp] theorem State.taking_params (pt : Port) (rest : List Packet) : (s.taking pt rest).params = s.params := by
  cases pt <;> rfl
@[simp] theorem State.taking_sources (pt : Port) (rest : List Packet) : (s.taking pt rest).sources = s.sources := by
  cases pt <;> rfl
@[simp] theorem State.taking_schedule (pt : Port) (rest : List Packet) : (s.taking pt rest).schedule = s.schedule := by
  cases pt <;> rfl
@[simp] theorem State.taking_port (pt : Port) (rest : List Packet) : (s.taking pt rest).port = pt := by
  cases pt <;> rfl
@[simp] theorem State.taking_output (pt : Port) (rest : List Packet) : (s.taking pt rest).output = s.output := by
  cases pt <;> rfl
@[simp] theorem State.taking_draws (pt : Port) (rest : List Packet) : (s.taking pt rest).draws = s.draws + 1 := by
  cases pt <;> rfl

/-! Registers -/

/-- Reading the register just written. -/
@[simp] theorem State.reg_setReg_same (r : VReg) (x : Vec) : (s.setReg r x).reg r = x := by
  simp [State.reg]

/-- Reading another register. -/
theorem State.reg_setReg_other {r q : VReg} (h : q ≠ r) (x : Vec) : (s.setReg r x).reg q = s.reg q := by
  have hne : (r : Nat) ≠ q := fun e => h (Fin.ext e.symm)
  simp [State.reg, hne]

@[simp] theorem State.reg_setMem (m : Memory) (r : VReg) : (s.setMem m).reg r = s.reg r := rfl
@[simp] theorem State.reg_setFtz (z : Bool) (r : VReg) : (s.setFtz z).reg r = s.reg r := rfl
@[simp] theorem State.reg_setDiag (d : Diag) (r : VReg) : (s.setDiag d).reg r = s.reg r := rfl
@[simp] theorem State.reg_answer (o : Output) (r : VReg) : (s.answer o).reg r = s.reg r := rfl
@[simp] theorem State.reg_complete (x : Word) (r : VReg) : (s.complete x).reg r = s.reg r := rfl
@[simp] theorem State.reg_refused (e : ErrCode) (r : VReg) : (s.refused e).reg r = s.reg r := rfl
@[simp] theorem State.reg_installImpulse (xs : List Word) (r : VReg) : (s.installImpulse xs).reg r = s.reg r := rfl
@[simp] theorem State.reg_ingest (xs : List Word) (r : VReg) : (s.ingest xs).reg r = s.reg r := rfl
@[simp] theorem State.reg_configure (width : SampleWidth) (b mb : BitVec 16) (r : VReg) : (s.configure width b mb).reg r = s.reg r := rfl
@[simp] theorem State.reg_taking (pt : Port) (rest : List Packet) (r : VReg) : (s.taking pt rest).reg r = s.reg r := by
  cases pt <;> rfl

/-! The error record -/

@[simp] theorem Status.record_lastErr (st : Status) (pt : Port) (e : ErrCode) : (st.record pt e).lastErr pt = e := by
  cases pt <;> rfl

/-- The other port's record is untouched. -/
theorem Status.record_lastErr_other (st : Status) {pt q : Port} (h : q ≠ pt) (e : ErrCode) :
    (st.record pt e).lastErr q = st.lastErr q := by
  cases pt <;> cases q <;> first | rfl | exact absurd rfl h

@[simp] theorem Status.record_configured (st : Status) (pt : Port) (e : ErrCode) : (st.record pt e).configured = st.configured := by
  cases pt <;> rfl
@[simp] theorem Status.record_inert (st : Status) (pt : Port) (e : ErrCode) : (st.record pt e).inert = st.inert := by
  cases pt <;> rfl
@[simp] theorem Status.record_simdSel (st : Status) (pt : Port) (e : ErrCode) : (st.record pt e).simdSel = st.simdSel := by
  cases pt <;> rfl
@[simp] theorem Status.record_width (st : Status) (pt : Port) (e : ErrCode) : (st.record pt e).width = st.width := by
  cases pt <;> rfl

/-! The command's end -/

@[simp] theorem State.complete_draw (x : Word) (k : Nat) : (s.complete x).draw k = s.draw k := rfl
@[simp] theorem State.setFtz_draw (z : Bool) (k : Nat) : (s.setFtz z).draw k = s.draw k := rfl
@[simp] theorem State.ingest_draw (xs : List Word) (k : Nat) : (s.ingest xs).draw k = s.draw k := rfl

end Sys2Proof.Machine
end

