-- ==== Sys2Proof/Laws/Ops.lean ====
section
/-! SUPPORT. What each shared operation of a command can do, said once: if it answers `next t`, one of these holds. -/

namespace Sys2Proof.Machine

open Sys2Proof.Config

variable {s t : State} {k : Result}

@[simp] theorem refuse_eq (e : ErrCode) (s : State) : refuse e s = .next (s.refused e) := rfl

@[simp] theorem done_eq (s : State) : done s = .next (s.complete 0) := rfl

theorem onPort_accepted {need : Port} (h : s.port = need) (k : Result) : onPort need s k = k := if_pos h

theorem onPort_refused {need : Port} (h : s.port ≠ need) (k : Result) :
    onPort need s k = .next (s.refused .port) := if_neg h

/-- `onPort` goes on on its own port and refuses on the other. -/
theorem onPort_next {need : Port} (h : onPort need s k = .next t) :
    (s.port = need ∧ k = .next t) ∨ (s.port ≠ need ∧ t = s.refused .port) := by
  by_cases hp : s.port = need
  · exact .inl ⟨hp, by rwa [onPort_accepted hp] at h⟩
  · rw [onPort_refused hp] at h
    exact .inr ⟨hp, by simpa using h.symm⟩

/-- `unlessMalformed` goes on or refuses with `ERR_ILLEGAL`. -/
theorem unlessMalformed_next {ok : Bool} (h : unlessMalformed ok s k = .next t) :
    (ok = true ∧ k = .next t) ∨ (ok = false ∧ t = s.refused .illegal) := by
  cases ok with
  | true => exact .inl ⟨rfl, by simpa [unlessMalformed] using h⟩
  | false => exact .inr ⟨rfl, by simpa [unlessMalformed, eq_comm] using h⟩

/-- `withSimd` goes on with the capability and refuses without it. -/
theorem withSimd_next (h : withSimd s k = .next t) :
    (s.params.simdPresent = true ∧ k = .next t) ∨ (s.params.simdPresent = false ∧ t = s.refused .noSimd) := by
  unfold withSimd at h
  cases hs : s.params.simdPresent with
  | true => exact .inl ⟨rfl, by simpa [hs] using h⟩
  | false => exact .inr ⟨rfl, by simpa [hs, eq_comm] using h⟩

/-- The template of a VectorOps command: it goes on, or the port or the capability refuses it. -/
theorem vectorCommand_next (h : vectorCommand s k = .next t) :
    (s.port = .p ∧ s.params.simdPresent = true ∧ k = .next t) ∨ (s.port ≠ .p ∧ t = s.refused .port) ∨
      (s.port = .p ∧ s.params.simdPresent = false ∧ t = s.refused .noSimd) := by
  rcases onPort_next h with ⟨hp, h⟩ | h
  · rcases withSimd_next h with ⟨hs, h⟩ | ⟨hs, h⟩
    · exact .inl ⟨hp, hs, h⟩
    · exact .inr (.inr ⟨hp, hs, h⟩)
  · exact .inr (.inl h)

theorem vectorCommand_runs (hp : s.port = .p) (hs : s.params.simdPresent = true) (k : Result) :
    vectorCommand s k = k := by
  simp [vectorCommand, onPort, withSimd, hp, hs]

theorem vectorCommand_wrong_port (hp : s.port ≠ .p) (k : Result) : vectorCommand s k = .next (s.refused .port) :=
  onPort_refused hp _

theorem vectorCommand_no_simd (hp : s.port = .p) (hs : s.params.simdPresent = false) (k : Result) :
    vectorCommand s k = .next (s.refused .noSimd) := by
  simp [vectorCommand, onPort, withSimd, hp, hs]

/-- A register-writing command: the register is written and the command completes, or it is refused. -/
theorem writesReg_next {vd : VReg} {x : Vec} (h : writesReg s vd x = .next t) :
    (s.port = .p ∧ s.params.simdPresent = true ∧ t = (s.setReg vd x).complete 0) ∨
      (s.port ≠ .p ∧ t = s.refused .port) ∨ (s.port = .p ∧ s.params.simdPresent = false ∧ t = s.refused .noSimd) := by
  rcases vectorCommand_next h with ⟨hp, hs, h⟩ | h
  · exact .inl ⟨hp, hs, by simpa [eq_comm] using h⟩
  · exact .inr h

theorem writesReg_runs (hp : s.port = .p) (hs : s.params.simdPresent = true) (vd : VReg) (x : Vec) :
    writesReg s vd x = .next ((s.setReg vd x).complete 0) :=
  vectorCommand_runs hp hs _

/-- VLDU: the register is loaded, or the port, the capability or the address refuses it. -/
theorem loadVec_next {vd : VReg} {a : Nat} (h : loadVec vd a s = .next t) :
    (s.port = .p ∧ s.params.simdPresent = true ∧
      ((loadable a = true ∧ t = (s.setReg vd (s.mem.read128 a)).complete 0) ∨ (loadable a = false ∧ t = s.refused .addr))) ∨
      (s.port ≠ .p ∧ t = s.refused .port) ∨ (s.port = .p ∧ s.params.simdPresent = false ∧ t = s.refused .noSimd) := by
  rcases vectorCommand_next h with ⟨hp, hs, h⟩ | h
  · refine .inl ⟨hp, hs, ?_⟩
    cases ha : loadable a with
    | true => exact .inl ⟨rfl, by simpa [ha, eq_comm] using h⟩
    | false => exact .inr ⟨rfl, by simpa [ha, eq_comm] using h⟩
  · exact .inr h

/-- VSTU: the 16 bytes are stored, or the port, the capability or the address refuses it. -/
theorem storeVec_next {vs : VReg} {a : Nat} (h : storeVec vs a s = .next t) :
    (s.port = .p ∧ s.params.simdPresent = true ∧
      ((storable a = true ∧ t = (s.setMem (s.mem.write128 a (s.reg vs))).complete 0) ∨
        (storable a = false ∧ t = s.refused .addr))) ∨
      (s.port ≠ .p ∧ t = s.refused .port) ∨ (s.port = .p ∧ s.params.simdPresent = false ∧ t = s.refused .noSimd) := by
  rcases vectorCommand_next h with ⟨hp, hs, h⟩ | h
  · refine .inl ⟨hp, hs, ?_⟩
    cases ha : storable a with
    | true => exact .inl ⟨rfl, by simpa [ha, eq_comm] using h⟩
    | false => exact .inr ⟨rfl, by simpa [ha, eq_comm] using h⟩
  · exact .inr h

/-- A 64-bit shuffle: the register is written, or the port, the selector or the capability refuses it. -/
theorem shuffleCommand64_next {vd va vb : VReg} {imm8 : BitVec 8} (h : shuffleCommand64 vd va vb imm8 s = .next t) :
    (s.port = .p ∧ shuffleImm64Ok imm8 = true ∧ s.params.simdPresent = true ∧
        t = (s.setReg vd (shuffle64 imm8 (s.reg va) (s.reg vb))).complete 0) ∨
      (s.port ≠ .p ∧ t = s.refused .port) ∨ (s.port = .p ∧ shuffleImm64Ok imm8 = false ∧ t = s.refused .illegal) ∨
      (s.port = .p ∧ shuffleImm64Ok imm8 = true ∧ s.params.simdPresent = false ∧ t = s.refused .noSimd) := by
  rcases onPort_next h with ⟨hp, h⟩ | h
  · rcases unlessMalformed_next h with ⟨hm, h⟩ | ⟨hm, h⟩
    · rcases withSimd_next h with ⟨hs, h⟩ | ⟨hs, h⟩
      · exact .inl ⟨hp, hm, hs, by simpa [eq_comm] using h⟩
      · exact .inr (.inr (.inr ⟨hp, hm, hs, h⟩))
    · exact .inr (.inr (.inl ⟨hp, hm, h⟩))
  · exact .inr (.inl h)

/-! ### The engine commands -/

theorem execConfig_next {width : SampleWidth} {b mb : BitVec 16} (h : execConfig width b mb s = .next t) :
    (s.port = .c ∧ configOk b.toNat mb.toNat = true ∧ t = (s.configure width b mb).complete 0) ∨
      (s.port = .c ∧ configOk b.toNat mb.toNat = false ∧ t = s.refused .badConfig) ∨
      (s.port ≠ .c ∧ t = s.refused .port) := by
  rcases onPort_next h with ⟨hp, h⟩ | h
  · cases hc : configOk b.toNat mb.toNat with
    | true => exact .inl ⟨hp, rfl, by simpa [hc, eq_comm] using h⟩
    | false => exact .inr (.inl ⟨hp, rfl, by simpa [hc, eq_comm] using h⟩)
  · exact .inr (.inr h)

theorem execLoadimp_next {explicit : Bool} {id off req chsel : Word}
    (h : execLoadimp explicit id off req chsel s = .next t) :
    (s.port = .c ∧ t = loadImpulse explicit id off req chsel s) ∨ (s.port ≠ .c ∧ t = s.refused .port) := by
  rcases onPort_next h with ⟨hp, h⟩ | h
  · exact .inl ⟨hp, by simpa [eq_comm] using h⟩
  · exact .inr h

theorem execProcess_next (h : execProcess s = .next t) :
    (s.port = .p ∧ s.status.configured = true ∧ t = s.processBlock.complete 0) ∨
      (s.port = .p ∧ s.status.configured = false ∧ t = s.refused .notConfigured) ∨
      (s.port ≠ .p ∧ t = s.refused .port) := by
  rcases onPort_next h with ⟨hp, h⟩ | h
  · cases hc : s.status.configured with
    | true => exact .inl ⟨hp, rfl, by simpa [hc, eq_comm] using h⟩
    | false => exact .inr (.inl ⟨hp, rfl, by simpa [hc, eq_comm] using h⟩)
  · exact .inr (.inr h)

/-- LOADIMP has three ways to end well: nothing on an inert instance, an empty impulse, or the source's. -/
theorem loadImpulse_cases (explicit : Bool) (id off req chsel : Word) (s : State) :
    (s.status.inert = true ∧ loadImpulse explicit id off req chsel s = s.complete 0) ∨
      (s.status.inert = false ∧ usableSource s.sources id = none ∧
        loadImpulse explicit id off req chsel s = (loadNothing s).complete 0) ∨
      ∃ src, s.status.inert = false ∧ usableSource s.sources id = some src ∧
        loadImpulse explicit id off req chsel s =
          (loadFrom explicit off req chsel src s).complete (loadFrom explicit off req chsel src s).impLen := by
  unfold loadImpulse
  cases hi : s.status.inert with
  | true => exact .inl ⟨rfl, by simp⟩
  | false =>
    cases hu : usableSource s.sources id with
    | none => exact .inr (.inl ⟨rfl, rfl, by simp⟩)
    | some src => exact .inr (.inr ⟨src, rfl, rfl, by simp⟩)

/-- PROCESS writes memory, the cursor and the window descriptor, and nothing else (47_perform_dispatch.md R325,
R326, R333). -/
theorem processBlock_frame (s : State) : s.processBlock =
    { s with
      mem := s.processBlock.mem
      inPos := s.processBlock.inPos
      winStart := s.processBlock.winStart
      winLen := s.processBlock.winLen } := by
  unfold State.processBlock State.withFlush State.runBlock State.writeSilence State.convolveBlock State.writeOutput
  split
  · split <;> rfl
  · dsimp only
    split <;> rfl

end Sys2Proof.Machine
end

