-- ==== Sys2Proof/Laws/PerInstr.lean ====
section
/-! SUPPORT. A law of every command: its packet has `word0` and as many operand words as `word0` asks for (30_encoding.md R129). -/

namespace Sys2Proof.Laws.EncodedLength

/-- The packet of a command is as long as its `word0` says. -/
def Statement (i : Instr) : Prop := (encode i).length = 1 + operandWords ((encode i).headD 0)

/-- From the opcode and the element type of a packet's `word0`. -/
theorem of_word0 {i : Instr} {op et vd va vb low8 : Nat} {ops : Packet} (h : encode i = word0 op et vd va vb low8 :: ops)
    (fit : FieldsFit op et vd va vb low8)
    (count : ops.length = if op = 0x01 then 1 else if op = 0x02 then 4
      else if op = 0x10 then (if et = 1 ∨ et = 3 then 2 else 1) else if op = 0x22 ∨ op = 0x23 then 1 else 0) :
    Statement i := by
  rw [Statement, h, List.headD_cons, operandWords_word0 fit, List.length_cons, count, Nat.add_comm]

theorem nop : Statement (.nop) :=
  of_word0 rfl ⟨by decide, by decide, by decide, by decide, by decide, by decide⟩ rfl

theorem config (width : SampleWidth) (block maxBlock : BitVec 16) : Statement (.config width block maxBlock) :=
  of_word0 rfl ⟨by decide, by decide, by decide, by decide, by decide, by split <;> decide⟩ rfl

theorem loadimp (explicit : Bool) (id off req chsel : Word) : Statement (.loadimp explicit id off req chsel) :=
  of_word0 rfl ⟨by decide, by decide, by decide, by decide, by decide, by split <;> decide⟩ rfl

theorem process : Statement (.process) :=
  of_word0 rfl ⟨by decide, by decide, by decide, by decide, by decide, by decide⟩ rfl

theorem clrdiag (mask3 : BitVec 3) : Statement (.clrdiag mask3) :=
  of_word0 rfl ⟨by decide, by decide, by decide, by decide, by decide, by omega⟩ rfl

theorem wrfpm (ftz : Bool) : Statement (.wrfpm ftz) :=
  of_word0 rfl ⟨by decide, by decide, by decide, by decide, by decide, by split <;> decide⟩ rfl

theorem vbcastF32 (vd : VReg) (s : Word) : Statement (.vbcastF32 vd s) :=
  of_word0 rfl (fieldsFit_regs .f32 vd 0 0 (by decide) (by decide)) rfl

theorem vbcastF64 (vd : VReg) (s : Dword) : Statement (.vbcastF64 vd s) :=
  of_word0 rfl (fieldsFit_regs .f64 vd 0 0 (by decide) (by decide)) rfl

theorem vbcastI32 (vd : VReg) (s : Word) : Statement (.vbcastI32 vd s) :=
  of_word0 rfl (fieldsFit_regs .i32 vd 0 0 (by decide) (by decide)) rfl

theorem vbcastI64 (vd : VReg) (s : Dword) : Statement (.vbcastI64 vd s) :=
  of_word0 rfl (fieldsFit_regs .i64 vd 0 0 (by decide) (by decide)) rfl

theorem vaddF32 (vd va vb : VReg) : Statement (.vaddF32 vd va vb) :=
  of_word0 rfl (fieldsFit_regs .f32 vd va vb (by decide) (by decide)) rfl

theorem vaddF64 (vd va vb : VReg) : Statement (.vaddF64 vd va vb) :=
  of_word0 rfl (fieldsFit_regs .f64 vd va vb (by decide) (by decide)) rfl

theorem vaddI32 (vd va vb : VReg) : Statement (.vaddI32 vd va vb) :=
  of_word0 rfl (fieldsFit_regs .i32 vd va vb (by decide) (by decide)) rfl

theorem vaddI64 (vd va vb : VReg) : Statement (.vaddI64 vd va vb) :=
  of_word0 rfl (fieldsFit_regs .i64 vd va vb (by decide) (by decide)) rfl

theorem vsubF32 (vd va vb : VReg) : Statement (.vsubF32 vd va vb) :=
  of_word0 rfl (fieldsFit_regs .f32 vd va vb (by decide) (by decide)) rfl

theorem vsubF64 (vd va vb : VReg) : Statement (.vsubF64 vd va vb) :=
  of_word0 rfl (fieldsFit_regs .f64 vd va vb (by decide) (by decide)) rfl

theorem vsubI32 (vd va vb : VReg) : Statement (.vsubI32 vd va vb) :=
  of_word0 rfl (fieldsFit_regs .i32 vd va vb (by decide) (by decide)) rfl

theorem vsubI64 (vd va vb : VReg) : Statement (.vsubI64 vd va vb) :=
  of_word0 rfl (fieldsFit_regs .i64 vd va vb (by decide) (by decide)) rfl

theorem vmulF32 (vd va vb : VReg) : Statement (.vmulF32 vd va vb) :=
  of_word0 rfl (fieldsFit_regs .f32 vd va vb (by decide) (by decide)) rfl

theorem vmulF64 (vd va vb : VReg) : Statement (.vmulF64 vd va vb) :=
  of_word0 rfl (fieldsFit_regs .f64 vd va vb (by decide) (by decide)) rfl

theorem vmulI32 (vd va vb : VReg) : Statement (.vmulI32 vd va vb) :=
  of_word0 rfl (fieldsFit_regs .i32 vd va vb (by decide) (by decide)) rfl

theorem vmulI64 (vd va vb : VReg) : Statement (.vmulI64 vd va vb) :=
  of_word0 rfl (fieldsFit_regs .i64 vd va vb (by decide) (by decide)) rfl

theorem vdivF32 (vd va vb : VReg) : Statement (.vdivF32 vd va vb) :=
  of_word0 rfl (fieldsFit_regs .f32 vd va vb (by decide) (by decide)) rfl

theorem vdivF64 (vd va vb : VReg) : Statement (.vdivF64 vd va vb) :=
  of_word0 rfl (fieldsFit_regs .f64 vd va vb (by decide) (by decide)) rfl

theorem vdivI32 (vd va vb : VReg) : Statement (.vdivI32 vd va vb) :=
  of_word0 rfl (fieldsFit_regs .i32 vd va vb (by decide) (by decide)) rfl

theorem vdivI64 (vd va vb : VReg) : Statement (.vdivI64 vd va vb) :=
  of_word0 rfl (fieldsFit_regs .i64 vd va vb (by decide) (by decide)) rfl

theorem vandF32 (vd va vb : VReg) : Statement (.vandF32 vd va vb) :=
  of_word0 rfl (fieldsFit_regs .f32 vd va vb (by decide) (by decide)) rfl

theorem vandF64 (vd va vb : VReg) : Statement (.vandF64 vd va vb) :=
  of_word0 rfl (fieldsFit_regs .f64 vd va vb (by decide) (by decide)) rfl

theorem vandI32 (vd va vb : VReg) : Statement (.vandI32 vd va vb) :=
  of_word0 rfl (fieldsFit_regs .i32 vd va vb (by decide) (by decide)) rfl

theorem vandI64 (vd va vb : VReg) : Statement (.vandI64 vd va vb) :=
  of_word0 rfl (fieldsFit_regs .i64 vd va vb (by decide) (by decide)) rfl

theorem vandnF32 (vd va vb : VReg) : Statement (.vandnF32 vd va vb) :=
  of_word0 rfl (fieldsFit_regs .f32 vd va vb (by decide) (by decide)) rfl

theorem vandnF64 (vd va vb : VReg) : Statement (.vandnF64 vd va vb) :=
  of_word0 rfl (fieldsFit_regs .f64 vd va vb (by decide) (by decide)) rfl

theorem vandnI32 (vd va vb : VReg) : Statement (.vandnI32 vd va vb) :=
  of_word0 rfl (fieldsFit_regs .i32 vd va vb (by decide) (by decide)) rfl

theorem vandnI64 (vd va vb : VReg) : Statement (.vandnI64 vd va vb) :=
  of_word0 rfl (fieldsFit_regs .i64 vd va vb (by decide) (by decide)) rfl

theorem vorF32 (vd va vb : VReg) : Statement (.vorF32 vd va vb) :=
  of_word0 rfl (fieldsFit_regs .f32 vd va vb (by decide) (by decide)) rfl

theorem vorF64 (vd va vb : VReg) : Statement (.vorF64 vd va vb) :=
  of_word0 rfl (fieldsFit_regs .f64 vd va vb (by decide) (by decide)) rfl

theorem vorI32 (vd va vb : VReg) : Statement (.vorI32 vd va vb) :=
  of_word0 rfl (fieldsFit_regs .i32 vd va vb (by decide) (by decide)) rfl

theorem vorI64 (vd va vb : VReg) : Statement (.vorI64 vd va vb) :=
  of_word0 rfl (fieldsFit_regs .i64 vd va vb (by decide) (by decide)) rfl

theorem vxorF32 (vd va vb : VReg) : Statement (.vxorF32 vd va vb) :=
  of_word0 rfl (fieldsFit_regs .f32 vd va vb (by decide) (by decide)) rfl

theorem vxorF64 (vd va vb : VReg) : Statement (.vxorF64 vd va vb) :=
  of_word0 rfl (fieldsFit_regs .f64 vd va vb (by decide) (by decide)) rfl

theorem vxorI32 (vd va vb : VReg) : Statement (.vxorI32 vd va vb) :=
  of_word0 rfl (fieldsFit_regs .i32 vd va vb (by decide) (by decide)) rfl

theorem vxorI64 (vd va vb : VReg) : Statement (.vxorI64 vd va vb) :=
  of_word0 rfl (fieldsFit_regs .i64 vd va vb (by decide) (by decide)) rfl

theorem vminF32 (vd va vb : VReg) : Statement (.vminF32 vd va vb) :=
  of_word0 rfl (fieldsFit_regs .f32 vd va vb (by decide) (by decide)) rfl

theorem vminF64 (vd va vb : VReg) : Statement (.vminF64 vd va vb) :=
  of_word0 rfl (fieldsFit_regs .f64 vd va vb (by decide) (by decide)) rfl

theorem vminI32 (vd va vb : VReg) : Statement (.vminI32 vd va vb) :=
  of_word0 rfl (fieldsFit_regs .i32 vd va vb (by decide) (by decide)) rfl

theorem vminI64 (vd va vb : VReg) : Statement (.vminI64 vd va vb) :=
  of_word0 rfl (fieldsFit_regs .i64 vd va vb (by decide) (by decide)) rfl

theorem vmaxF32 (vd va vb : VReg) : Statement (.vmaxF32 vd va vb) :=
  of_word0 rfl (fieldsFit_regs .f32 vd va vb (by decide) (by decide)) rfl

theorem vmaxF64 (vd va vb : VReg) : Statement (.vmaxF64 vd va vb) :=
  of_word0 rfl (fieldsFit_regs .f64 vd va vb (by decide) (by decide)) rfl

theorem vmaxI32 (vd va vb : VReg) : Statement (.vmaxI32 vd va vb) :=
  of_word0 rfl (fieldsFit_regs .i32 vd va vb (by decide) (by decide)) rfl

theorem vmaxI64 (vd va vb : VReg) : Statement (.vmaxI64 vd va vb) :=
  of_word0 rfl (fieldsFit_regs .i64 vd va vb (by decide) (by decide)) rfl

theorem vcmpeqF32 (vd va vb : VReg) : Statement (.vcmpeqF32 vd va vb) :=
  of_word0 rfl (fieldsFit_regs .f32 vd va vb (by decide) (by decide)) rfl

theorem vcmpeqF64 (vd va vb : VReg) : Statement (.vcmpeqF64 vd va vb) :=
  of_word0 rfl (fieldsFit_regs .f64 vd va vb (by decide) (by decide)) rfl

theorem vcmpeqI32 (vd va vb : VReg) : Statement (.vcmpeqI32 vd va vb) :=
  of_word0 rfl (fieldsFit_regs .i32 vd va vb (by decide) (by decide)) rfl

theorem vcmpeqI64 (vd va vb : VReg) : Statement (.vcmpeqI64 vd va vb) :=
  of_word0 rfl (fieldsFit_regs .i64 vd va vb (by decide) (by decide)) rfl

theorem vcmpgtF32 (vd va vb : VReg) : Statement (.vcmpgtF32 vd va vb) :=
  of_word0 rfl (fieldsFit_regs .f32 vd va vb (by decide) (by decide)) rfl

theorem vcmpgtF64 (vd va vb : VReg) : Statement (.vcmpgtF64 vd va vb) :=
  of_word0 rfl (fieldsFit_regs .f64 vd va vb (by decide) (by decide)) rfl

theorem vcmpgtI32 (vd va vb : VReg) : Statement (.vcmpgtI32 vd va vb) :=
  of_word0 rfl (fieldsFit_regs .i32 vd va vb (by decide) (by decide)) rfl

theorem vcmpgtI64 (vd va vb : VReg) : Statement (.vcmpgtI64 vd va vb) :=
  of_word0 rfl (fieldsFit_regs .i64 vd va vb (by decide) (by decide)) rfl

theorem vcmpltF32 (vd va vb : VReg) : Statement (.vcmpltF32 vd va vb) :=
  of_word0 rfl (fieldsFit_regs .f32 vd va vb (by decide) (by decide)) rfl

theorem vcmpltF64 (vd va vb : VReg) : Statement (.vcmpltF64 vd va vb) :=
  of_word0 rfl (fieldsFit_regs .f64 vd va vb (by decide) (by decide)) rfl

theorem vcmpltI32 (vd va vb : VReg) : Statement (.vcmpltI32 vd va vb) :=
  of_word0 rfl (fieldsFit_regs .i32 vd va vb (by decide) (by decide)) rfl

theorem vcmpltI64 (vd va vb : VReg) : Statement (.vcmpltI64 vd va vb) :=
  of_word0 rfl (fieldsFit_regs .i64 vd va vb (by decide) (by decide)) rfl

theorem vteqF32 (vd va vb : VReg) : Statement (.vteqF32 vd va vb) :=
  of_word0 rfl (fieldsFit_regs .f32 vd va vb (by decide) (by decide)) rfl

theorem vteqF64 (vd va vb : VReg) : Statement (.vteqF64 vd va vb) :=
  of_word0 rfl (fieldsFit_regs .f64 vd va vb (by decide) (by decide)) rfl

theorem vtgtF32 (vd va vb : VReg) : Statement (.vtgtF32 vd va vb) :=
  of_word0 rfl (fieldsFit_regs .f32 vd va vb (by decide) (by decide)) rfl

theorem vtgtF64 (vd va vb : VReg) : Statement (.vtgtF64 vd va vb) :=
  of_word0 rfl (fieldsFit_regs .f64 vd va vb (by decide) (by decide)) rfl

theorem vtltF32 (vd va vb : VReg) : Statement (.vtltF32 vd va vb) :=
  of_word0 rfl (fieldsFit_regs .f32 vd va vb (by decide) (by decide)) rfl

theorem vtltF64 (vd va vb : VReg) : Statement (.vtltF64 vd va vb) :=
  of_word0 rfl (fieldsFit_regs .f64 vd va vb (by decide) (by decide)) rfl

theorem vselF32 (vd va vb vm : VReg) : Statement (.vselF32 vd va vb vm) :=
  of_word0 rfl (fieldsFit_regs .f32 vd va vb (by decide) (by omega)) rfl

theorem vselF64 (vd va vb vm : VReg) : Statement (.vselF64 vd va vb vm) :=
  of_word0 rfl (fieldsFit_regs .f64 vd va vb (by decide) (by omega)) rfl

theorem vselI32 (vd va vb vm : VReg) : Statement (.vselI32 vd va vb vm) :=
  of_word0 rfl (fieldsFit_regs .i32 vd va vb (by decide) (by omega)) rfl

theorem vselI64 (vd va vb vm : VReg) : Statement (.vselI64 vd va vb vm) :=
  of_word0 rfl (fieldsFit_regs .i64 vd va vb (by decide) (by omega)) rfl

theorem vlduF32 (vd : VReg) (addr : Word) : Statement (.vlduF32 vd addr) :=
  of_word0 rfl (fieldsFit_regs .f32 vd 0 0 (by decide) (by decide)) rfl

theorem vlduF64 (vd : VReg) (addr : Word) : Statement (.vlduF64 vd addr) :=
  of_word0 rfl (fieldsFit_regs .f64 vd 0 0 (by decide) (by decide)) rfl

theorem vlduI32 (vd : VReg) (addr : Word) : Statement (.vlduI32 vd addr) :=
  of_word0 rfl (fieldsFit_regs .i32 vd 0 0 (by decide) (by decide)) rfl

theorem vlduI64 (vd : VReg) (addr : Word) : Statement (.vlduI64 vd addr) :=
  of_word0 rfl (fieldsFit_regs .i64 vd 0 0 (by decide) (by decide)) rfl

theorem vstuF32 (vd : VReg) (addr : Word) : Statement (.vstuF32 vd addr) :=
  of_word0 rfl (fieldsFit_regs .f32 vd 0 0 (by decide) (by decide)) rfl

theorem vstuF64 (vd : VReg) (addr : Word) : Statement (.vstuF64 vd addr) :=
  of_word0 rfl (fieldsFit_regs .f64 vd 0 0 (by decide) (by decide)) rfl

theorem vstuI32 (vd : VReg) (addr : Word) : Statement (.vstuI32 vd addr) :=
  of_word0 rfl (fieldsFit_regs .i32 vd 0 0 (by decide) (by decide)) rfl

theorem vstuI64 (vd : VReg) (addr : Word) : Statement (.vstuI64 vd addr) :=
  of_word0 rfl (fieldsFit_regs .i64 vd 0 0 (by decide) (by decide)) rfl

theorem vshufF32 (vd va vb : VReg) (imm8 : BitVec 8) : Statement (.vshufF32 vd va vb imm8) :=
  of_word0 rfl (fieldsFit_regs .f32 vd va vb (by decide) (by omega)) rfl

theorem vshufF64 (vd va vb : VReg) (imm8 : BitVec 8) : Statement (.vshufF64 vd va vb imm8) :=
  of_word0 rfl (fieldsFit_regs .f64 vd va vb (by decide) (by omega)) rfl

theorem vshufI32 (vd va vb : VReg) (imm8 : BitVec 8) : Statement (.vshufI32 vd va vb imm8) :=
  of_word0 rfl (fieldsFit_regs .i32 vd va vb (by decide) (by omega)) rfl

theorem vshufI64 (vd va vb : VReg) (imm8 : BitVec 8) : Statement (.vshufI64 vd va vb imm8) :=
  of_word0 rfl (fieldsFit_regs .i64 vd va vb (by decide) (by omega)) rfl

theorem vcvtF32I32 (vd va : VReg) : Statement (.vcvtF32I32 vd va) :=
  of_word0 rfl (fieldsFit_regs .f32 vd va 0 (by decide) (by decide)) rfl

theorem vcvttI32F32 (vd va : VReg) : Statement (.vcvttI32F32 vd va) :=
  of_word0 rfl (fieldsFit_regs .i32 vd va 0 (by decide) (by decide)) rfl

theorem vcvtrI32F32 (vd va : VReg) : Statement (.vcvtrI32F32 vd va) :=
  of_word0 rfl (fieldsFit_regs .i32 vd va 0 (by decide) (by decide)) rfl

theorem vcvtF64I64 (vd va : VReg) : Statement (.vcvtF64I64 vd va) :=
  of_word0 rfl (fieldsFit_regs .f64 vd va 0 (by decide) (by decide)) rfl

theorem vcvttI64F64 (vd va : VReg) : Statement (.vcvttI64F64 vd va) :=
  of_word0 rfl (fieldsFit_regs .i64 vd va 0 (by decide) (by decide)) rfl

theorem vcvtrI64F64 (vd va : VReg) : Statement (.vcvtrI64F64 vd va) :=
  of_word0 rfl (fieldsFit_regs .i64 vd va 0 (by decide) (by decide)) rfl

theorem vcvtF32F64 (vd va : VReg) : Statement (.vcvtF32F64 vd va) :=
  of_word0 rfl (fieldsFit_regs .f32 vd va 0 (by decide) (by decide)) rfl

theorem vcvtF64F32 (vd va : VReg) : Statement (.vcvtF64F32 vd va) :=
  of_word0 rfl (fieldsFit_regs .f64 vd va 0 (by decide) (by decide)) rfl

end Sys2Proof.Laws.EncodedLength
end

