-- ==== Sys2Proof/Laws/Step.lean ====
section
/-! SUPPORT. What one step can do, said once. -/

namespace Sys2Proof.Machine

/-- With nothing scheduled the machine waits. -/
theorem step_idle {s : State} (h : s.schedule = []) : step s = .next s := by simp [step, h]

/-- With an input scheduled the step takes it. -/
theorem step_takes {s : State} {input : Input} {rest : List Input} (h : s.schedule = input :: rest) :
    step s = takeInput input { s with schedule := rest } := by simp [step, h]

/-- Serving a port with nothing presented does nothing. -/
theorem serve_idle {s : State} {port : Port} (h : s.queue port = []) : serve port s = .next (s.answer .none) := by
  simp [serve, h]

/-- Serving a port executes its oldest packet. -/
theorem serve_executes {s : State} {port : Port} {pkt : Packet} {rest : List Packet} (h : s.queue port = pkt :: rest) :
    serve port s = execPacket pkt (s.taking port rest) := by simp [serve, h]

/-- A packet that decodes is executed as its command. -/
theorem execPacket_ok {pkt : Packet} {i : Instr} (h : decode pkt = .ok i) (s : State) : execPacket pkt s = exec i s := by
  simp [execPacket, h]

/-- A packet that is no command is refused with `ERR_ILLEGAL` or `ERR_PORT`. -/
theorem rejectPacket_next {pkt : Packet} {e : DecodeError} {s t : State} (h : rejectPacket pkt e s = .next t) :
    t = s.refused .illegal ∨ t = s.refused .port := by
  unfold rejectPacket at h
  split at h
  · split at h
    · exact .inl (by simpa [eq_comm] using h)
    · exact .inr (by simpa [eq_comm] using h)
  · exact .inl (by simpa [eq_comm] using h)

/-- One step: it waits, or it takes an input: a presentation, a port with nothing to serve, a command, a packet
that is none, a host access, a change of sources, or reset. -/
theorem step_cases {s t : State} (h : step s = .next t) :
    (s.schedule = [] ∧ t = s) ∨ ∃ rest,
      (∃ port pkt, s.schedule = .present port pkt :: rest ∧
        present port pkt { s with schedule := rest } = .next t) ∨
      (∃ port, s.schedule = .serve port :: rest ∧ s.queue port = [] ∧
        t = ({ s with schedule := rest } : State).answer .none) ∨
      (∃ port pkt q i, s.schedule = .serve port :: rest ∧ s.queue port = pkt :: q ∧ decode pkt = .ok i ∧
        exec i (({ s with schedule := rest } : State).taking port q) = .next t) ∨
      (∃ port pkt q e, s.schedule = .serve port :: rest ∧ s.queue port = pkt :: q ∧ decode pkt = .error e ∧
        rejectPacket pkt e (({ s with schedule := rest } : State).taking port q) = .next t) ∨
      (∃ a, s.schedule = .hostRead a :: rest ∧ hostRead a.toNat { s with schedule := rest } = .next t) ∨
      (∃ a x, s.schedule = .hostWrite a x :: rest ∧ hostWrite a.toNat x { s with schedule := rest } = .next t) ∨
      (∃ n, s.schedule = .csrRead n :: rest ∧ csrRead n.toNat { s with schedule := rest } = .next t) ∨
      (∃ dir, s.schedule = .changeSources dir :: rest ∧ changeSources dir { s with schedule := rest } = .next t) ∨
      (s.schedule = .reset :: rest ∧ applyReset { s with schedule := rest } = .next t) := by
  cases hs : s.schedule with
  | nil => exact .inl ⟨rfl, by simpa [step, hs, eq_comm] using h⟩
  | cons input rest =>
    rw [step_takes hs] at h
    refine .inr ⟨rest, ?_⟩
    cases input with
    | present port pkt => exact .inl ⟨port, pkt, rfl, h⟩
    | serve port =>
      have hq : ({ s with schedule := rest } : State).queue port = s.queue port := by cases port <;> rfl
      cases hpk : s.queue port with
      | nil =>
        refine .inr (.inl ⟨port, rfl, hpk, ?_⟩)
        have h' : serve port { s with schedule := rest } = .next t := h
        rw [serve_idle (hq.trans hpk)] at h'
        simpa [eq_comm] using h'
      | cons pkt q =>
        have h' : serve port { s with schedule := rest } = .next t := h
        rw [serve_executes (hq.trans hpk), execPacket] at h'
        cases hd : decode pkt with
        | ok i => exact .inr (.inr (.inl ⟨port, pkt, q, i, rfl, hpk, hd, by simpa [hd] using h'⟩))
        | error e => exact .inr (.inr (.inr (.inl ⟨port, pkt, q, e, rfl, hpk, hd, by simpa [hd] using h'⟩)))
    | hostRead a => exact .inr (.inr (.inr (.inr (.inl ⟨a, rfl, h⟩))))
    | hostWrite a x => exact .inr (.inr (.inr (.inr (.inr (.inl ⟨a, x, rfl, h⟩)))))
    | csrRead n => exact .inr (.inr (.inr (.inr (.inr (.inr (.inl ⟨n, rfl, h⟩))))))
    | changeSources dir => exact .inr (.inr (.inr (.inr (.inr (.inr (.inr (.inl ⟨dir, rfl, h⟩)))))))
    | reset => exact .inr (.inr (.inr (.inr (.inr (.inr (.inr (.inr ⟨rfl, h⟩)))))))

end Sys2Proof.Machine
end

