-- ==== Sys2Proof/Tests/Slice0.lean ====
section
/-! SUPPORT. Tests of the model: words written out from the encodings of spec/30_encoding.md, the worked examples of spec/95_test_vectors.md and of the rules, and a witness for the hypotheses of every statement. -/

-- One theorem after another: checked side by side, the stacks of their threads pass the memory limit of the check.
set_option Elab.async false

namespace Sys2Proof.Tests

open Sys2Proof.Machine Sys2Proof.Config

/-! ### Well-formedness and decoding -/

/-- 30_encoding.md R116: bits 7:2 of a 64-bit selector must be zero. -/
theorem test_wellFormed_refuses_wide_selector :
    (Instr.vshufF64 0 1 2 4).wellFormed = false ∧ (Instr.vshufI64 0 1 2 0x80).wellFormed = false ∧
      (Instr.vshufF64 0 1 2 3).wellFormed = true ∧ (Instr.vshufF32 0 1 2 0xFF).wellFormed = true := by decide

/-- 95_test_vectors.md 2.1. -/
theorem test_decode_engine :
    decode [0x00000000] = .ok .nop ∧
    decode [0x01000001, 0x00080004] = .ok (.config .hostDouble 4 8) ∧
    decode [0x02000001, 7, 2, 9, 2] = .ok (.loadimp true 7 2 9 2) ∧
    decode [0x02000000, 1, 0, 0, 1] = .ok (.loadimp false 1 0 0 1) ∧
    decode [0x03000000] = .ok .process ∧
    decode [0x04000002] = .ok (.clrdiag 2) ∧
    decode [0x05000001] = .ok (.wrfpm true) := by decide

/-- 95_test_vectors.md 2.1 and FA3; word1 is the low half. -/
theorem test_decode_vbcast :
    decode [0x10010000, 0x3F800000] = .ok (.vbcastF32 1 0x3F800000) ∧
    decode [0x10410000, 0x00000000, 0x3FF00000] = .ok (.vbcastF64 1 0x3FF0000000000000) ∧
    decode [0x10820000, 5] = .ok (.vbcastI32 2 5) ∧
    decode [0x10C20000, 2, 1] = .ok (.vbcastI64 2 0x0000000100000002) := by decide

/-- 30_encoding.md R114, R125: op 0x11, vd 15, va 14, vb 13. -/
theorem test_decode_vadd :
    decode [0x110FED00] = .ok (.vaddF32 15 14 13) ∧
    decode [0x114FED00] = .ok (.vaddF64 15 14 13) ∧
    decode [0x118FED00] = .ok (.vaddI32 15 14 13) ∧
    decode [0x11CFED00] = .ok (.vaddI64 15 14 13) := by decide

/-- 30_encoding.md R114, R125: op 0x12, vd 15, va 14, vb 13. -/
theorem test_decode_vsub :
    decode [0x120FED00] = .ok (.vsubF32 15 14 13) ∧
    decode [0x124FED00] = .ok (.vsubF64 15 14 13) ∧
    decode [0x128FED00] = .ok (.vsubI32 15 14 13) ∧
    decode [0x12CFED00] = .ok (.vsubI64 15 14 13) := by decide

/-- 30_encoding.md R114, R125: op 0x13, vd 15, va 14, vb 13. -/
theorem test_decode_vmul :
    decode [0x130FED00] = .ok (.vmulF32 15 14 13) ∧
    decode [0x134FED00] = .ok (.vmulF64 15 14 13) ∧
    decode [0x138FED00] = .ok (.vmulI32 15 14 13) ∧
    decode [0x13CFED00] = .ok (.vmulI64 15 14 13) := by decide

/-- 30_encoding.md R114, R125: op 0x14, vd 15, va 14, vb 13. -/
theorem test_decode_vdiv :
    decode [0x140FED00] = .ok (.vdivF32 15 14 13) ∧
    decode [0x144FED00] = .ok (.vdivF64 15 14 13) ∧
    decode [0x148FED00] = .ok (.vdivI32 15 14 13) ∧
    decode [0x14CFED00] = .ok (.vdivI64 15 14 13) := by decide

/-- 30_encoding.md R114, R125: op 0x15, vd 15, va 14, vb 13. -/
theorem test_decode_vand :
    decode [0x150FED00] = .ok (.vandF32 15 14 13) ∧
    decode [0x154FED00] = .ok (.vandF64 15 14 13) ∧
    decode [0x158FED00] = .ok (.vandI32 15 14 13) ∧
    decode [0x15CFED00] = .ok (.vandI64 15 14 13) := by decide

/-- 30_encoding.md R114, R125: op 0x16, vd 15, va 14, vb 13. -/
theorem test_decode_vandn :
    decode [0x160FED00] = .ok (.vandnF32 15 14 13) ∧
    decode [0x164FED00] = .ok (.vandnF64 15 14 13) ∧
    decode [0x168FED00] = .ok (.vandnI32 15 14 13) ∧
    decode [0x16CFED00] = .ok (.vandnI64 15 14 13) := by decide

/-- 30_encoding.md R114, R125: op 0x17, vd 15, va 14, vb 13. -/
theorem test_decode_vor :
    decode [0x170FED00] = .ok (.vorF32 15 14 13) ∧
    decode [0x174FED00] = .ok (.vorF64 15 14 13) ∧
    decode [0x178FED00] = .ok (.vorI32 15 14 13) ∧
    decode [0x17CFED00] = .ok (.vorI64 15 14 13) := by decide

/-- 30_encoding.md R114, R125: op 0x18, vd 15, va 14, vb 13. -/
theorem test_decode_vxor :
    decode [0x180FED00] = .ok (.vxorF32 15 14 13) ∧
    decode [0x184FED00] = .ok (.vxorF64 15 14 13) ∧
    decode [0x188FED00] = .ok (.vxorI32 15 14 13) ∧
    decode [0x18CFED00] = .ok (.vxorI64 15 14 13) := by decide

/-- 30_encoding.md R114, R125: op 0x19, vd 15, va 14, vb 13. -/
theorem test_decode_vmin :
    decode [0x190FED00] = .ok (.vminF32 15 14 13) ∧
    decode [0x194FED00] = .ok (.vminF64 15 14 13) ∧
    decode [0x198FED00] = .ok (.vminI32 15 14 13) ∧
    decode [0x19CFED00] = .ok (.vminI64 15 14 13) := by decide

/-- 30_encoding.md R114, R125: op 0x1A, vd 15, va 14, vb 13. -/
theorem test_decode_vmax :
    decode [0x1A0FED00] = .ok (.vmaxF32 15 14 13) ∧
    decode [0x1A4FED00] = .ok (.vmaxF64 15 14 13) ∧
    decode [0x1A8FED00] = .ok (.vmaxI32 15 14 13) ∧
    decode [0x1ACFED00] = .ok (.vmaxI64 15 14 13) := by decide

/-- 30_encoding.md R114, R125: op 0x1B, vd 15, va 14, vb 13. -/
theorem test_decode_vcmpeq :
    decode [0x1B0FED00] = .ok (.vcmpeqF32 15 14 13) ∧
    decode [0x1B4FED00] = .ok (.vcmpeqF64 15 14 13) ∧
    decode [0x1B8FED00] = .ok (.vcmpeqI32 15 14 13) ∧
    decode [0x1BCFED00] = .ok (.vcmpeqI64 15 14 13) := by decide

/-- 30_encoding.md R114, R125: op 0x1C, vd 15, va 14, vb 13. -/
theorem test_decode_vcmpgt :
    decode [0x1C0FED00] = .ok (.vcmpgtF32 15 14 13) ∧
    decode [0x1C4FED00] = .ok (.vcmpgtF64 15 14 13) ∧
    decode [0x1C8FED00] = .ok (.vcmpgtI32 15 14 13) ∧
    decode [0x1CCFED00] = .ok (.vcmpgtI64 15 14 13) := by decide

/-- 30_encoding.md R114, R125: op 0x1D, vd 15, va 14, vb 13. -/
theorem test_decode_vcmplt :
    decode [0x1D0FED00] = .ok (.vcmpltF32 15 14 13) ∧
    decode [0x1D4FED00] = .ok (.vcmpltF64 15 14 13) ∧
    decode [0x1D8FED00] = .ok (.vcmpltI32 15 14 13) ∧
    decode [0x1DCFED00] = .ok (.vcmpltI64 15 14 13) := by decide

/-- 30_encoding.md R114, R125: op 0x1E, vd 15, va 14, vb 13. -/
theorem test_decode_vteq :
    decode [0x1E0FED00] = .ok (.vteqF32 15 14 13) ∧
    decode [0x1E4FED00] = .ok (.vteqF64 15 14 13) := by decide

/-- 30_encoding.md R114, R125: op 0x1F, vd 15, va 14, vb 13. -/
theorem test_decode_vtgt :
    decode [0x1F0FED00] = .ok (.vtgtF32 15 14 13) ∧
    decode [0x1F4FED00] = .ok (.vtgtF64 15 14 13) := by decide

/-- 30_encoding.md R114, R125: op 0x20, vd 15, va 14, vb 13. -/
theorem test_decode_vtlt :
    decode [0x200FED00] = .ok (.vtltF32 15 14 13) ∧
    decode [0x204FED00] = .ok (.vtltF64 15 14 13) := by decide

/-- 30_encoding.md R115: vd 1, va 2, vb 3, vm 4. -/
theorem test_decode_vsel :
    decode [0x21012340] = .ok (.vselF32 1 2 3 4) ∧
    decode [0x21412340] = .ok (.vselF64 1 2 3 4) ∧
    decode [0x21812340] = .ok (.vselI32 1 2 3 4) ∧
    decode [0x21C12340] = .ok (.vselI64 1 2 3 4) := by decide

/-- 30_encoding.md R118. -/
theorem test_decode_vldu :
    decode [0x22020000, 0x0000A000] = .ok (.vlduF32 2 0xA000) ∧
    decode [0x22420000, 0x0000A000] = .ok (.vlduF64 2 0xA000) ∧
    decode [0x22820000, 0x0000A000] = .ok (.vlduI32 2 0xA000) ∧
    decode [0x22C20000, 0x0000A000] = .ok (.vlduI64 2 0xA000) := by decide

/-- 30_encoding.md R118. -/
theorem test_decode_vstu :
    decode [0x23020000, 0x0000E008] = .ok (.vstuF32 2 0xE008) ∧
    decode [0x23420000, 0x0000E008] = .ok (.vstuF64 2 0xE008) ∧
    decode [0x23820000, 0x0000E008] = .ok (.vstuI32 2 0xE008) ∧
    decode [0x23C20000, 0x0000E008] = .ok (.vstuI64 2 0xE008) := by decide

/-- 95_test_vectors.md 2.8. -/
theorem test_decode_vshuf :
    decode [0x2400111B] = .ok (.vshufF32 0 1 1 0x1B) ∧
    decode [0x24403402] = .ok (.vshufF64 0 3 4 2) ∧
    decode [0x24801244] = .ok (.vshufI32 0 1 2 0x44) ∧
    decode [0x24C01101] = .ok (.vshufI64 0 1 1 1) := by decide

/-- 30_encoding.md R117, R125: vd 4, va 5. -/
theorem test_decode_vcvt :
    decode [0x28045000] = .ok (.vcvtF32I32 4 5) ∧
    decode [0x29845000] = .ok (.vcvttI32F32 4 5) ∧
    decode [0x2A845000] = .ok (.vcvtrI32F32 4 5) ∧
    decode [0x2B445000] = .ok (.vcvtF64I64 4 5) ∧
    decode [0x2CC45000] = .ok (.vcvttI64F64 4 5) ∧
    decode [0x2DC45000] = .ok (.vcvtrI64F64 4 5) ∧
    decode [0x2E045000] = .ok (.vcvtF32F64 4 5) ∧
    decode [0x2F445000] = .ok (.vcvtF64F32 4 5) := by decide

/-- 95_test_vectors.md 2.1, the second table. -/
theorem test_decode_rejects :
    decode [0x06000000] = .error .reservedOpcode ∧
    decode [0xFF000000] = .error .reservedOpcode ∧
    decode [0x25000000] = .error .reservedOpcode ∧
    decode [0x03000001] = .error .malformed ∧
    decode [0x01000000] = .error .malformed ∧
    decode [0x11012301] = .error .malformed ∧
    decode [0x1E801200] = .error .malformed ∧
    decode [0x28401000] = .error .malformed ∧
    decode [0x24401104] = .error .malformed ∧
    decode [0x10410000, 0] = .error .malformed ∧
    decode [0x22021000, 0xA000] = .error .malformed ∧
    decode [] = .error .emptyPacket := by decide

/-- The numbering of the opcode table: bit 0 is the least significant bit of `word0` (log 2). -/
theorem test_tableWord :
    decodeTableWord 32 0x11012300 = some (.vaddF32 1 2 3) ∧
    decodeTableWord 32 0x02000000 = some (.loadimp false 0 0 0 0) ∧
    decodeTableWord 96 0x000000010000000210C20000 = some (.vbcastI64 2 0x0000000100000002) := by decide

/-! ### Worked examples of the vector commands -/

/-- A state with two source registers, on port P. -/
def sources2 (a b : Vec) : State := (State.reset.setReg 1 a).setReg 2 b

/-- The same with a mask in V3. -/
def sources3 (a b m : Vec) : State := (sources2 a b).setReg 3 m

/-- The register `V[0]` after a command. -/
def v0 (r : Result) : Option Vec :=
  match r with
  | .next t => some (t.reg 0)
  | _ => none

/-- What a command answers. -/
def answerOf (r : Result) : Option Output :=
  match r with
  | .next t => some t.output
  | _ => none

/-- 95_test_vectors.md FA4, FA15. -/
theorem test_vadd_float :
    v0 (exec (.vaddF32 0 1 2) (sources2 (vec32 (0x3F800000) (0x40000000) (0x80000000) (0x3FC00000)) (vec32 (0x3F000000) (0xC0000000) (0x80000000) (0x33800000)))) = some (vec32 (0x3FC00000) (0) (0x80000000) (0x3FC00000)) ∧
    v0 (exec (.vaddF64 0 1 2) (sources2 (vec64 (0x3FF0000000000000) (0x4340000000000000)) (vec64 (0x3CA0000000000000) (0x3FF0000000000000)))) = some (vec64 (0x3FF0000000000000) (0x4340000000000000)) := by decide +kernel

/-- 95_test_vectors.md IA1, IA5. -/
theorem test_vadd_int :
    v0 (exec (.vaddI32 0 1 2) (sources2 (vec32 (1) (-1) (0x7FFFFFFF) (5)) (vec32 (2) (1) (1) (-7)))) = some (vec32 (3) (0) (0x80000000) (0xFFFFFFFE)) ∧
    v0 (exec (.vaddI64 0 1 2) (sources2 (vec64 (0xFFFFFFFFFFFFFFFF) (0x00000000FFFFFFFF)) (vec64 (1) (1)))) = some (vec64 (0) (0x0000000100000000)) := by decide +kernel

/-- 95_test_vectors.md FA7, IA2; 40_vec_arith.md R163, R164. -/
theorem test_vsub :
    v0 (exec (.vsubF32 0 1 2) (sources2 (vec32 (0x40400000) (0x3F800000) (0) (0xBF800000)) (vec32 (0x3F800000) (0x3F800000) (0) (0x3F800000)))) = some (vec32 (0x40000000) (0) (0) (0xC0000000)) ∧
    v0 (exec (.vsubF64 0 1 2) (sources2 (vec64 (0x3FF0000000000000) (0)) (vec64 (0x4000000000000000) (0x8000000000000000)))) = some (vec64 (0xBFF0000000000000) (0)) ∧
    v0 (exec (.vsubI32 0 1 2) (sources2 (vec32 (5) (0) (0x80000000) (1)) (vec32 (7) (1) (1) (1)))) = some (vec32 (0xFFFFFFFE) (0xFFFFFFFF) (0x7FFFFFFF) (0)) ∧
    v0 (exec (.vsubI64 0 1 2) (sources2 (vec64 (0) (0x8000000000000000)) (vec64 (1) (1)))) = some (vec64 (0xFFFFFFFFFFFFFFFF) (0x7FFFFFFFFFFFFFFF)) := by decide +kernel

/-- 95_test_vectors.md FA8, FA16, IA3, IA8. -/
theorem test_vmul :
    v0 (exec (.vmulF32 0 1 2) (sources2 (vec32 (0x40000000) (0xC0400000) (0x3F000000) (0)) (vec32 (0x40800000) (0x40000000) (0x3F000000) (0xC0A00000)))) = some (vec32 (0x41000000) (0xC0C00000) (0x3E800000) (0x80000000)) ∧
    v0 (exec (.vmulF64 0 1 2) (sources2 (vec64 (0x3FB999999999999A) (0xC000000000000000)) (vec64 (0x4024000000000000) (0)))) = some (vec64 (0x3FF0000000000000) (0x8000000000000000)) ∧
    v0 (exec (.vmulI32 0 1 2) (sources2 (vec32 (3) (-4) (0x00010000) (0x7FFFFFFF)) (vec32 (5) (6) (0x00010000) (2)))) = some (vec32 (15) (0xFFFFFFE8) (0) (0xFFFFFFFE)) ∧
    v0 (exec (.vmulI64 0 1 2) (sources2 (vec64 (0x0000000100000000) (-3)) (vec64 (0x0000000100000000) (3)))) = some (vec64 (0) (0xFFFFFFFFFFFFFFF7)) := by decide +kernel

/-- 95_test_vectors.md FA13, FA14, IA4, IA7; 40_vec_arith.md R167. -/
theorem test_vdiv :
    v0 (exec (.vdivF32 0 1 2) (sources2 (vec32 (0x3F800000) (0xC0C00000) (0xBF800000) (0x3F800000)) (vec32 (0x40800000) (0x40400000) (0) (0x40400000)))) = some (vec32 (0x3E800000) (0xC0000000) (0xFF800000) (0x3EAAAAAB)) ∧
    v0 (exec (.vdivF64 0 1 2) (sources2 (vec64 (0x3FF0000000000000) (0xC000000000000000)) (vec64 (0x4000000000000000) (0)))) = some (vec64 (0x3FE0000000000000) (0xFFF0000000000000)) ∧
    v0 (exec (.vdivI32 0 1 2) (sources2 (vec32 (7) (-7) (5) (0x80000000)) (vec32 (2) (2) (0) (-1)))) = some (vec32 (3) (0xFFFFFFFD) (0xFFFFFFFF) (0x80000000)) ∧
    v0 (exec (.vdivI64 0 1 2) (sources2 (vec64 (-9) (0x8000000000000000)) (vec64 (4) (-1)))) = some (vec64 (0xFFFFFFFFFFFFFFFE) (0x8000000000000000)) := by decide +kernel

/-- 95_test_vectors.md FA9, FA10: a subnormal product is kept with the mode off and flushed with it on. -/
theorem test_flush_to_zero :
    v0 (exec (.vmulF32 0 1 2) (sources2 (vec32 0x00800000 0x80800000 1 1) (vec32 0x3F000000 0x3F000000 0 0))) =
      some (vec32 0x00400000 0x80400000 0 0) ∧
    v0 (exec (.vmulF32 0 1 2) ((sources2 (vec32 0x00800000 0x80800000 1 1) (vec32 0x3F000000 0x3F000000 0 0)).setFtz true)) =
      some (vec32 0 0x80000000 0 0) := by decide +kernel

/-- 40_vec_arith.md R152: an invalid operation gives a quiet NaN, whatever is drawn. -/
theorem test_invalid_is_nan (d : Dword) :
    f32.isNaN (f32.add false d 0x7F800000 0xFF800000) = true ∧ f32.isNaN (f32.mul false d 0x7F800000 0) = true := by
  have e1 : f32.add false d 0x7F800000 0xFF800000 = f32.quietNaN d := by rfl
  have e2 : f32.mul false d 0x7F800000 0 = f32.quietNaN d := by rfl
  have hq : f32.isNaN (f32.quietNaN d) = true := by
    simp only [FloatFormat.isNaN, FloatFormat.quietNaN, FloatFormat.mag, FloatFormat.pack, FloatFormat.infMag,
      FloatFormat.maxExp, f32, decide_eq_true_eq, BitVec.toNat_ofNat]
    split <;> omega
  exact ⟨e1 ▸ hq, e2 ▸ hq⟩

/-- 95_test_vectors.md LG1; the type does not matter (R180). -/
theorem test_vand :
    v0 (exec (.vandF32 0 1 2) (sources2 (vec32 (0x3F800000) (0x40000000) (0xBF800000) (0x7FC00000)) (vec32 (0xFFFFFFFF) (0) (0xFFFFFFFF) (0)))) = some (vec32 (0x3F800000) (0) (0xBF800000) (0)) ∧
    v0 (exec (.vandF64 0 1 2) (sources2 (vec32 (0x3F800000) (0x40000000) (0xBF800000) (0x7FC00000)) (vec32 (0xFFFFFFFF) (0) (0xFFFFFFFF) (0)))) = some (vec32 (0x3F800000) (0) (0xBF800000) (0)) ∧
    v0 (exec (.vandI32 0 1 2) (sources2 (vec32 (0x3F800000) (0x40000000) (0xBF800000) (0x7FC00000)) (vec32 (0xFFFFFFFF) (0) (0xFFFFFFFF) (0)))) = some (vec32 (0x3F800000) (0) (0xBF800000) (0)) ∧
    v0 (exec (.vandI64 0 1 2) (sources2 (vec32 (0x3F800000) (0x40000000) (0xBF800000) (0x7FC00000)) (vec32 (0xFFFFFFFF) (0) (0xFFFFFFFF) (0)))) = some (vec32 (0x3F800000) (0) (0xBF800000) (0)) := by decide +kernel

/-- 95_test_vectors.md LG2. -/
theorem test_vandn :
    v0 (exec (.vandnF32 0 1 2) (sources2 (vec32 (0xFFFFFFFF) (0) (0xFFFFFFFF) (0)) (vec32 (1) (2) (3) (4)))) = some (vec32 (0) (2) (0) (4)) ∧
    v0 (exec (.vandnF64 0 1 2) (sources2 (vec32 (0xFFFFFFFF) (0) (0xFFFFFFFF) (0)) (vec32 (1) (2) (3) (4)))) = some (vec32 (0) (2) (0) (4)) ∧
    v0 (exec (.vandnI32 0 1 2) (sources2 (vec32 (0xFFFFFFFF) (0) (0xFFFFFFFF) (0)) (vec32 (1) (2) (3) (4)))) = some (vec32 (0) (2) (0) (4)) ∧
    v0 (exec (.vandnI64 0 1 2) (sources2 (vec32 (0xFFFFFFFF) (0) (0xFFFFFFFF) (0)) (vec32 (1) (2) (3) (4)))) = some (vec32 (0) (2) (0) (4)) := by decide +kernel

/-- 95_test_vectors.md LG3. -/
theorem test_vor :
    v0 (exec (.vorF32 0 1 2) (sources2 (vec32 (0x0F) (0xF0) (0) (0xFFFF0000)) (vec32 (0xF0) (0xF0) (0) (0x0000FFFF)))) = some (vec32 (0xFF) (0xF0) (0) (0xFFFFFFFF)) ∧
    v0 (exec (.vorF64 0 1 2) (sources2 (vec32 (0x0F) (0xF0) (0) (0xFFFF0000)) (vec32 (0xF0) (0xF0) (0) (0x0000FFFF)))) = some (vec32 (0xFF) (0xF0) (0) (0xFFFFFFFF)) ∧
    v0 (exec (.vorI32 0 1 2) (sources2 (vec32 (0x0F) (0xF0) (0) (0xFFFF0000)) (vec32 (0xF0) (0xF0) (0) (0x0000FFFF)))) = some (vec32 (0xFF) (0xF0) (0) (0xFFFFFFFF)) ∧
    v0 (exec (.vorI64 0 1 2) (sources2 (vec32 (0x0F) (0xF0) (0) (0xFFFF0000)) (vec32 (0xF0) (0xF0) (0) (0x0000FFFF)))) = some (vec32 (0xFF) (0xF0) (0) (0xFFFFFFFF)) := by decide +kernel

/-- 95_test_vectors.md LG4. -/
theorem test_vxor :
    v0 (exec (.vxorF32 0 1 2) (sources2 (vec32 (0x3F800000) (0xBF800000) (0) (0x80000000)) (vec32 (0x80000000) (0x80000000) (0x80000000) (0x80000000)))) = some (vec32 (0xBF800000) (0x3F800000) (0x80000000) (0)) ∧
    v0 (exec (.vxorF64 0 1 2) (sources2 (vec32 (0x3F800000) (0xBF800000) (0) (0x80000000)) (vec32 (0x80000000) (0x80000000) (0x80000000) (0x80000000)))) = some (vec32 (0xBF800000) (0x3F800000) (0x80000000) (0)) ∧
    v0 (exec (.vxorI32 0 1 2) (sources2 (vec32 (0x3F800000) (0xBF800000) (0) (0x80000000)) (vec32 (0x80000000) (0x80000000) (0x80000000) (0x80000000)))) = some (vec32 (0xBF800000) (0x3F800000) (0x80000000) (0)) ∧
    v0 (exec (.vxorI64 0 1 2) (sources2 (vec32 (0x3F800000) (0xBF800000) (0) (0x80000000)) (vec32 (0x80000000) (0x80000000) (0x80000000) (0x80000000)))) = some (vec32 (0xBF800000) (0x3F800000) (0x80000000) (0)) := by decide +kernel

/-- 95_test_vectors.md LG6, LG9, LG11; 41_vec_logic_minmax.md R186. -/
theorem test_vmin :
    v0 (exec (.vminF32 0 1 2) (sources2 (vec32 (0x3F800000) (0x40A00000) (0x7FC00000) (0)) (vec32 (0x40000000) (0xC0A00000) (0x40400000) (0x80000000)))) = some (vec32 (0x3F800000) (0xC0A00000) (0x40400000) (0x80000000)) ∧
    v0 (exec (.vminF64 0 1 2) (sources2 (vec64 (0x3FF0000000000000) (0x7FF8000000000000)) (vec64 (0xBFF0000000000000) (0x4000000000000000)))) = some (vec64 (0xBFF0000000000000) (0x4000000000000000)) ∧
    v0 (exec (.vminI32 0 1 2) (sources2 (vec32 (3) (-1) (0x80000000) (7)) (vec32 (2) (1) (0x7FFFFFFF) (7)))) = some (vec32 (2) (0xFFFFFFFF) (0x80000000) (7)) ∧
    v0 (exec (.vminI64 0 1 2) (sources2 (vec64 (0xFFFFFFFF00000000) (1)) (vec64 (0x00000000FFFFFFFF) (1)))) = some (vec64 (0xFFFFFFFF00000000) (1)) := by decide +kernel

/-- 95_test_vectors.md LG8, LG10, LG13; 41_vec_logic_minmax.md R189. -/
theorem test_vmax :
    v0 (exec (.vmaxF32 0 1 2) (sources2 (vec32 (0x3F800000) (0x40A00000) (0x7FC00000) (0)) (vec32 (0x40000000) (0xC0A00000) (0x40400000) (0x80000000)))) = some (vec32 (0x40000000) (0x40A00000) (0x40400000) (0x80000000)) ∧
    v0 (exec (.vmaxF64 0 1 2) (sources2 (vec64 (0x3FF0000000000000) (0x7FF8000000000000)) (vec64 (0xBFF0000000000000) (0x4000000000000000)))) = some (vec64 (0x3FF0000000000000) (0x4000000000000000)) ∧
    v0 (exec (.vmaxI32 0 1 2) (sources2 (vec32 (3) (-1) (0x80000000) (7)) (vec32 (2) (1) (0x7FFFFFFF) (7)))) = some (vec32 (3) (1) (0x7FFFFFFF) (7)) ∧
    v0 (exec (.vmaxI64 0 1 2) (sources2 (vec64 (-1) (0x8000000000000000)) (vec64 (1) (0x7FFFFFFFFFFFFFFF)))) = some (vec64 (1) (0x7FFFFFFFFFFFFFFF)) := by decide +kernel

/-- 95_test_vectors.md CM1, CM10, CM2; 42_vec_compare_select.md R202. -/
theorem test_vcmpeq :
    v0 (exec (.vcmpeqF32 0 1 2) (sources2 (vec32 (0x3F800000) (0) (0x7FC00000) (0x40000000)) (vec32 (0x3F800000) (0x80000000) (0x7FC00000) (0x40400000)))) = some (vec32 (0xFFFFFFFF) (0xFFFFFFFF) (0) (0)) ∧
    v0 (exec (.vcmpeqF64 0 1 2) (sources2 (vec64 (0) (0x3FF0000000000000)) (vec64 (0x8000000000000000) (0x3FF8000000000000)))) = some (vec64 (0xFFFFFFFFFFFFFFFF) (0)) ∧
    v0 (exec (.vcmpeqI32 0 1 2) (sources2 (vec32 (1) (2) (0x80000000) (0)) (vec32 (1) (3) (0x80000000) (0x80000000)))) = some (vec32 (0xFFFFFFFF) (0) (0xFFFFFFFF) (0)) ∧
    v0 (exec (.vcmpeqI64 0 1 2) (sources2 (vec64 (0) (5)) (vec64 (0x8000000000000000) (5)))) = some (vec64 (0) (0xFFFFFFFFFFFFFFFF)) := by decide +kernel

/-- 95_test_vectors.md CM4, CM8, CM5, CM9. -/
theorem test_vcmpgt :
    v0 (exec (.vcmpgtF32 0 1 2) (sources2 (vec32 (0x40000000) (0x3F800000) (0x7FC00000) (0)) (vec32 (0x3F800000) (0x3F800000) (0) (0x80000000)))) = some (vec32 (0xFFFFFFFF) (0) (0) (0)) ∧
    v0 (exec (.vcmpgtF64 0 1 2) (sources2 (vec64 (0x7FF0000000000000) (0x3FF0000000000000)) (vec64 (0x7FEFFFFFFFFFFFFF) (0x7FF8000000000000)))) = some (vec64 (0xFFFFFFFFFFFFFFFF) (0)) ∧
    v0 (exec (.vcmpgtI32 0 1 2) (sources2 (vec32 (1) (-1) (0x7FFFFFFF) (5)) (vec32 (-1) (1) (0x80000000) (5)))) = some (vec32 (0xFFFFFFFF) (0) (0xFFFFFFFF) (0)) ∧
    v0 (exec (.vcmpgtI64 0 1 2) (sources2 (vec64 (0x0000000100000000) (-1)) (vec64 (0x00000000FFFFFFFF) (0)))) = some (vec64 (0xFFFFFFFFFFFFFFFF) (0)) := by decide +kernel

/-- 95_test_vectors.md CM6, CM7, TR3; 42_vec_compare_select.md R206. -/
theorem test_vcmplt :
    v0 (exec (.vcmpltF32 0 1 2) (sources2 (vec32 (0x40000000) (0x3F800000) (0x7FC00000) (0xBF800000)) (vec32 (0x3F800000) (0x3FC00000) (0) (0)))) = some (vec32 (0) (0xFFFFFFFF) (0) (0xFFFFFFFF)) ∧
    v0 (exec (.vcmpltF64 0 1 2) (sources2 (vec64 (0x3FF0000000000000) (0x4014000000000000)) (vec64 (0x4000000000000000) (0x4014000000000000)))) = some (vec64 (0xFFFFFFFFFFFFFFFF) (0)) ∧
    v0 (exec (.vcmpltI32 0 1 2) (sources2 (vec32 (1) (-1) (0x80000000) (5)) (vec32 (-1) (1) (0) (5)))) = some (vec32 (0) (0xFFFFFFFF) (0xFFFFFFFF) (0)) ∧
    v0 (exec (.vcmpltI64 0 1 2) (sources2 (vec64 (0x8000000000000000) (1)) (vec64 (0) (1)))) = some (vec64 (0xFFFFFFFFFFFFFFFF) (0)) := by decide +kernel

/-- 95_test_vectors.md TR1 to TR3; 42_vec_compare_select.md R207 to R209. -/
theorem test_truth :
    v0 (exec (.vteqF32 0 1 2) (sources2 (vec32 (0x3F800000) (0) (0x7FC00000) (0x40000000)) (vec32 (0x3F800000) (0x80000000) (0x7FC00000) (0x40400000)))) = some (vec32 (0x3F800000) (0x3F800000) (0) (0)) ∧
    v0 (exec (.vteqF64 0 1 2) (sources2 (vec64 (0) (0x3FF0000000000000)) (vec64 (0x8000000000000000) (0x4000000000000000)))) = some (vec64 (0x3FF0000000000000) (0)) ∧
    v0 (exec (.vtgtF32 0 1 2) (sources2 (vec32 (0x40000000) (0x3F800000) (0x7FC00000) (0)) (vec32 (0x3F800000) (0x3F800000) (0) (0x80000000)))) = some (vec32 (0x3F800000) (0) (0) (0)) ∧
    v0 (exec (.vtgtF64 0 1 2) (sources2 (vec64 (0x4000000000000000) (0x3FF0000000000000)) (vec64 (0x3FF0000000000000) (0x4000000000000000)))) = some (vec64 (0x3FF0000000000000) (0)) ∧
    v0 (exec (.vtltF32 0 1 2) (sources2 (vec32 (0x40000000) (0x3F800000) (0x7FC00000) (0xBF800000)) (vec32 (0x3F800000) (0x3FC00000) (0) (0)))) = some (vec32 (0) (0x3F800000) (0) (0x3F800000)) ∧
    v0 (exec (.vtltF64 0 1 2) (sources2 (vec64 (0x3FF0000000000000) (0x4014000000000000)) (vec64 (0x4000000000000000) (0x4014000000000000)))) = some (vec64 (0x3FF0000000000000) (0)) := by decide +kernel

/-- 95_test_vectors.md SL1, SL2, SL4, SL5. -/
theorem test_vsel :
    v0 (exec (.vselI32 0 1 2 3) (sources3 (vec32 (1) (2) (3) (4)) (vec32 (10) (20) (30) (40)) (vec32 (0xFFFFFFFF) (0) (0) (0xFFFFFFFF)))) = some (vec32 (10) (2) (3) (40)) ∧
    v0 (exec (.vselF32 0 1 2 3) (sources3 (vec32 (0x7FC00001) (0x80000000) (0x000116C2) (0x3F800000)) (vec32 (0) (0) (0) (0)) (vec32 (0) (0) (0) (0xFFFFFFFF)))) = some (vec32 (0x7FC00001) (0x80000000) (0x000116C2) (0)) ∧
    v0 (exec (.vselF64 0 1 2 3) (sources3 (vec64 (0x3FF0000000000000) (0x4000000000000000)) (vec64 (0x4008000000000000) (0x4010000000000000)) (vec64 (0xFFFFFFFFFFFFFFFF) (0)))) = some (vec64 (0x4008000000000000) (0x4000000000000000)) ∧
    v0 (exec (.vselI64 0 1 2 3) (sources3 (vec64 (0x1111111122222222) (0)) (vec64 (0x3333333344444444) (0)) (vec32 (0xFFFFFFFF) (0) (0) (0)))) = some (vec64 (0x1111111144444444) (0)) := by decide +kernel

/-- INB holding 1.0, 2.0, 3.0, 4.0, 5.0. -/
def filledInb : State :=
  State.reset.setMem (Memory.writeSamples [] 0x0A000 [0x3F800000, 0x40000000, 0x40400000, 0x40800000, 0x40A00000])

/-- 95_test_vectors.md LS1 to LS4. -/
theorem test_vldu :
    v0 (exec (.vlduF32 0 0x0A000) filledInb) = some (vec32 0x3F800000 0x40000000 0x40400000 0x40800000) ∧
    v0 (exec (.vlduI64 0 0x0A004) filledInb) = some (vec32 0x40000000 0x40400000 0x40800000 0x40A00000) ∧
    v0 (exec (.vlduI32 0 0x0A002) filledInb) = some (vec32 0x00003F80 0x00004000 0x00004040 0x00004080) ∧
    v0 (exec (.vlduF64 0 0x0A000) filledInb) = some (vec64 0x400000003F800000 0x4080000040400000) := by decide +kernel

/-- 95_test_vectors.md LS5 to LS8: the edges of the regions, and no wrap-around. -/
theorem test_vldu_addresses :
    [0x07FF0, 0x07FF4, 0x11FF0, 0x11FF1, 0x12000, 0xFFFFFFF8].map (fun a => answerOf (exec (.vlduF32 2 a) State.reset)) =
      [some (.response .ok 0), some (.response .addr 0), some (.response .ok 0), some (.response .addr 0),
        some (.response .addr 0), some (.response .addr 0)] := by decide +kernel

/-- The 32-bit words of OUTB after a command. -/
def outWords (n : Nat) (r : Result) : List Word :=
  match r with
  | .next t => (List.range n).map t.mem.outb32
  | _ => []

/-- 95_test_vectors.md LS10, and LS11 to LS14 for the addresses. -/
theorem test_vstu :
    outWords 6 (exec (.vstuI32 1 0x0E008) (sources2 (vec32 1 2 3 4) 0)) = [0, 0, 1, 2, 3, 4] ∧
    [0x0A000, 0x00000, 0x08000, 0x0DFF0, 0x0DFF8].map (fun a => answerOf (exec (.vstuF32 2 a) State.reset)) =
      [some (.response .ok 0), some (.response .addr 0), some (.response .addr 0), some (.response .ok 0),
        some (.response .addr 0)] ∧
    outWords 4 (exec (.vstuF64 1 0x0E000) (sources2 (vec64 7 9) 0)) = [7, 0, 9, 0] ∧
    outWords 5 (exec (.vstuI64 1 0x0E001) (sources2 (vec32 1 2 3 4) 0)) = [0x100, 0x200, 0x300, 0x400, 0] := by
  decide +kernel

/-- 95_test_vectors.md SH1, SH6, SH7, SH9; an ill-formed selector is `ERR_ILLEGAL` (R227). -/
theorem test_vshuf :
    v0 (exec (.vshufF32 0 1 1 0x1B) (sources2 (vec32 10 11 12 13) 0)) = some (vec32 13 12 11 10) ∧
    v0 (exec (.vshufI32 0 1 2 0x4E) (sources2 (vec32 10 11 12 13) (vec32 20 21 22 23))) = some (vec32 12 13 20 21) ∧
    v0 (exec (.vshufI64 0 1 1 1) (sources2 (vec64 0xAAAA 0xBBBB) 0)) = some (vec64 0xBBBB 0xAAAA) ∧
    v0 (exec (.vshufF64 0 1 2 3) (sources2 (vec64 0xAAAA 0xBBBB) (vec64 0xCCCC 0xDDDD))) = some (vec64 0xBBBB 0xDDDD) ∧
    answerOf (exec (.vshufF64 0 1 2 4) State.reset) = some (.response .illegal 0) := by decide +kernel

/-- 95_test_vectors.md CV1, CV9. -/
theorem test_vcvt_int_to_float :
    v0 (exec (.vcvtF32I32 0 1) (sources2 (vec32 (1) (-2) (16777217) (0)) 0)) = some (vec32 (0x3F800000) (0xC0000000) (0x4B800000) (0)) ∧
    v0 (exec (.vcvtF64I64 0 1) (sources2 (vec64 (0x0020000000000001) (0x7FFFFFFFFFFFFFFF)) 0)) = some (vec64 (0x4340000000000000) (0x43E0000000000000)) := by decide +kernel

/-- 95_test_vectors.md CV3, CV6, CV10, CV12. -/
theorem test_vcvt_float_to_int :
    v0 (exec (.vcvttI32F32 0 1) (sources2 (vec32 (0x3FF33333) (0xBFF33333) (0x4F32D05E) (0x7FC00000)) 0)) = some (vec32 (1) (0xFFFFFFFF) (0x7FFFFFFF) (0)) ∧
    v0 (exec (.vcvtrI32F32 0 1) (sources2 (vec32 (0x3F000000) (0x3FC00000) (0x40200000) (0xBFC00000)) 0)) = some (vec32 (0) (2) (2) (0xFFFFFFFE)) ∧
    v0 (exec (.vcvttI64F64 0 1) (sources2 (vec64 (0x4007333333333333) (0xC007333333333333)) 0)) = some (vec64 (2) (0xFFFFFFFFFFFFFFFE)) ∧
    v0 (exec (.vcvtrI64F64 0 1) (sources2 (vec64 (0x4004000000000000) (0x400C000000000000)) 0)) = some (vec64 (2) (4)) := by decide +kernel

/-- 95_test_vectors.md CV4, CV11. -/
theorem test_vcvt_saturates :
    v0 (exec (.vcvttI32F32 0 1) (sources2 (vec32 (0xBF000000) (0xCF000000) (0x7F800000) (0xFF800000)) 0)) = some (vec32 (0) (0x80000000) (0x7FFFFFFF) (0x80000000)) ∧
    v0 (exec (.vcvttI64F64 0 1) (sources2 (vec64 (0x43E0000000000000) (0x7FF8000000000000)) 0)) = some (vec64 (0x7FFFFFFFFFFFFFFF) (0)) := by decide +kernel

/-- 95_test_vectors.md CV13 to CV16, CV19: narrowing flushes under the mode, widening never does. -/
theorem test_vcvt_narrow_widen :
    v0 (exec (.vcvtF32F64 0 1) (sources2 (vec64 0x3FB999999999999A 0x48078287F49C4A1D) 0)) =
      some (vec32 0x3DCCCCCD 0x7F800000 0 0) ∧
    v0 (exec (.vcvtF32F64 0 1) (sources2 (vec64 0x37A16C262777579C 0xB7A16C262777579C) 0)) =
      some (vec32 0x000116C2 0x800116C2 0 0) ∧
    v0 (exec (.vcvtF32F64 0 1) ((sources2 (vec64 0x37A16C262777579C 0xB7A16C262777579C) 0).setFtz true)) =
      some (vec32 0 0x80000000 0 0) ∧
    v0 (exec (.vcvtF64F32 0 1) ((sources2 (vec32 0x000116C2 0x3DCCCCCD 0 0) 0).setFtz true)) =
      some (vec64 0x37A16C2000000000 0x3FB99999A0000000) := by decide +kernel

/-- 95_test_vectors.md FA1, FA3; 40_vec_arith.md R160. -/
theorem test_vbcast :
    v0 (exec (.vbcastF32 0 0x3F800000) State.reset) = some 0x3F8000003F8000003F8000003F800000 ∧
    v0 (exec (.vbcastF64 0 0x3FF0000000000000) State.reset) = some (vec32 0 0x3FF00000 0 0x3FF00000) ∧
    v0 (exec (.vbcastI32 0 7) State.reset) = some (vec32 7 7 7 7) ∧
    v0 (exec (.vbcastI64 0 0x0000000700000007) State.reset) = some (vec32 7 7 7 7) := by decide +kernel

/-! ### Worked examples of the engine commands and the ports -/

/-- The state a command leaves. -/
def after (r : Result) : State :=
  match r with
  | .next t => t
  | _ => State.reset

/-- A command executed on port C. -/
def onC (i : Instr) (s : State) : State := after (exec i { s with port := .c })

/-- A command executed on port P. -/
def onP (i : Instr) (s : State) : State := after (exec i { s with port := .p })

/-- The sources of 95_test_vectors.md 2.10: `S` (id 1) and `T` (id 2). -/
def sourcesST : Directory :=
  [(1, { frames := 5, channels := 2, format := 0,
         samples := [0x3F800000, 0x41200000, 0x40000000, 0x41A00000, 0x40400000, 0x41F00000, 0x40800000, 0x42200000,
           0x40A00000, 0x42480000] }),
    (2, { frames := 3, channels := 1, format := 0, samples := [0x3F800000, 0x40000000, 0x40400000] })]

/-- Reset with those sources. -/
def withSources : State := { State.reset with sources := sourcesST }

/-- `CSR.DIAG` as the host reads it. -/
def diagOf (s : State) : Word := csrValue s 3

/-- 47_perform_dispatch.md R320: NOP is accepted on both ports. -/
theorem test_nop :
    (onC .nop State.reset).output = .response .ok 0 ∧ (onP .nop State.reset).output = .response .ok 0 := by
  decide +kernel

/-- 47_perform_dispatch.md R321: a block of 4 is accepted; blocks of 3 and 0, a maximum of 2048, and a block that does
not divide the maximum are not. -/
theorem test_config :
    ([(4, 4), (1024, 1024), (3, 3), (0, 0), (4, 2048), (64, 96), (8, 4)].map fun p =>
      (onC (.config .native p.1 p.2) State.reset).output) =
      [.response .ok 0, .response .ok 0, .response .badConfig 0, .response .badConfig 0, .response .badConfig 0,
        .response .badConfig 0, .response .badConfig 0] ∧
    csrValue (onC (.config .native 4 4) State.reset) 2 = 0x00000005 ∧
    csrValue (onC (.config .hostDouble 4 8) State.reset) 5 = 8 := by decide +kernel

/-- 95_test_vectors.md LI1, LI3, LI7. -/
theorem test_loadimp_samples :
    ((List.range 4).map fun k => (onC (.loadimp false 2 0 0 1) withSources).mem.imp (12 + k)) =
      [0, 0x40400000, 0x40000000, 0x3F800000] ∧
    ((List.range 6).map fun k => (onC (.loadimp false 1 0 0 2) withSources).mem.imp (10 + k)) =
      [0, 0x42480000, 0x42200000, 0x41F00000, 0x41A00000, 0x41200000] ∧
    ((List.range 3).map fun k => (onC (.loadimp true 1 2 2 2) withSources).mem.imp (13 + k)) =
      [0, 0x42200000, 0x41F00000] := by decide +kernel

/-- 95_test_vectors.md LI1, LI8, LI9, LI11, LI12, LI13: response and diagnostics. -/
theorem test_loadimp_lengths :
    ([(false, 2, 0, 0), (true, 1, 2, 9), (true, 1, 0, 0), (true, 1, 7, 1), (true, 1, 5, 0), (false, 9, 0, 0)].map fun p =>
      let t := onC (.loadimp p.1 p.2.1 p.2.2.1 p.2.2.2 1) withSources
      (t.output, t.impPadLen, diagOf t)) =
      [(.response .ok 3, 16, 0), (.response .ok 3, 16, 2), (.response .ok 0, 0, 0), (.response .ok 0, 0, 2),
        (.response .ok 0, 0, 0), (.response .ok 0, 0, 4)] := by decide +kernel

/-- The four words of OUTB, the cursor and the window after a command. -/
def blockOf (s : State) : List Word × Word × Word × Word :=
  ((List.range 4).map s.mem.outb32, s.inPos, s.winStart, s.winLen)

/-- 95_test_vectors.md KV2, with the impulse `[1.0]` put in place: a subnormal is flushed, `-0` comes out `+0`. -/
theorem test_process_identity :
    blockOf (onP .process (onC (.config .native 4 4)
      { State.reset with
        mem := (Memory.write32 [] 0x0803C 0x3F800000).writeSamples 0x0A000 [0x000116C2, 0x80000000, 0x00800000, 0xBFC00000]
        impLen := 1
        impPadLen := 16 })) =
      ([0, 0, 0x00800000, 0xBFC00000], 4, 4080, 20) := by decide +kernel

/-- 95_test_vectors.md KV1 and KV7: no taps give silence and the block is ingested; an inert instance gives silence
and ingests nothing. -/
theorem test_process_silence :
    (let t := onP .process (onC (.config .native 2 2)
      { State.reset with mem := Memory.writeSamples [] 0x0A000 [0x3F800000, 0x7FC00000] })
    (blockOf t = ([0, 0, 0, 0], 2, 4096, 2) ∧ t.mem.hist 1 = 0x7FC00000 ∧ t.mem.hist 4096 = 0x3F800000)) ∧
    (let t := onP .process (onC (.config .native 2 2)
      { State.resetWith { simdPresent := true, family := .a, allocOk := false } [] with
        mem := Memory.writeSamples [] 0x0E000 [7, 7, 7] })
    (blockOf t = ([0, 0, 7, 0], 0, 0, 0) ∧ t.mem.hist 0 = 0)) := by decide +kernel

/-- 47_perform_dispatch.md R328: CLRDIAG clears the selected bits only. -/
theorem test_clrdiag :
    diagOf (onC (.clrdiag 2) { State.reset with diag := { allocFail := false, srcShort := true, srcInvalid := true } }) = 4 := by
  decide +kernel

/-- 47_perform_dispatch.md R329, 60_exceptions.md R354. -/
theorem test_wrfpm :
    csrValue (onP (.wrfpm true) State.reset) 11 = 1 ∧ (onC (.wrfpm true) State.reset).output = .response .port 0 := by
  decide +kernel

/-- The fetched word is executed by the very next step (log 2); 47_perform_dispatch.md R333. -/
theorem test_withFetchWord :
    (after (step (State.reset.withFetchWord 32 0x03000000))).output = .response .notConfigured 0 ∧
    (after (step (State.reset.withFetchWord 64 0x0004000401000000))).cfgBlock = 4 ∧
    (after (step (State.reset.withFetchWord 32 0x06000000))).output = .response .illegal 0 := by decide +kernel

/-- A state with one input scheduled. -/
def scheduled (input : Input) : State := { filledInb with schedule := [input] }

/-- 20_memory.md R77, R78; 10_state.md R40, R41. -/
theorem test_host_ports :
    (after (step (scheduled (.hostRead 0x0A004)))).output = .data 0x40000000 ∧
    (after (step (scheduled (.hostWrite 0x0A004 0x12345678)))).mem.inb32 1 = 0x12345678 ∧
    (after (step (scheduled (.hostWrite 0x08000 1)))).output = .portError ∧
    (after (step (scheduled (.csrRead 0)))).output = .data 0x46495245 := by decide +kernel

/-- 60_exceptions.md R358: the order of the checks, on packets. -/
theorem test_error_order :
    (after (execPacket [0x03000001] { State.reset with port := .c })).output = .response .port 0 ∧
    (after (execPacket [0x03000001] State.reset)).output = .response .illegal 0 ∧
    (after (execPacket [0x22020000, 0x12000]
      (State.resetWith { simdPresent := false, family := .b, allocOk := true } []))).output = .response .noSimd 0 := by
  decide +kernel

/-! ### Witnesses: a state and operands that meet the hypotheses of each statement

A statement with no hypothesis (a result stated for every state) needs none.  Where a statement asks for an
answered next state, the witness shows the answer. -/

/-- Reset on port C. -/
def resetC : State := { State.reset with port := .c }

/-- An instance without the capability. -/
def noSimd : State := State.resetWith { simdPresent := false, family := .b, allocOk := true } []

/-- An instance that is not inert, configured for blocks of four. -/
def configured4 : State :=
  { State.reset with
    cfgBlock := 4
    cfgMaxBlock := 4
    status := { State.reset.status with configured := true, simdSel := true } }

/-- An inert instance, configured for blocks of four doubles. -/
def inert4 : State :=
  { State.resetWith { simdPresent := true, family := .a, allocOk := false } [] with
    cfgBlock := 4
    cfgMaxBlock := 4
    status := { State.reset.status with configured := true, inert := true, simdSel := true, width := .hostDouble } }

/-- Nothing listed reads as zero. -/
theorem read32_nil (a : Nat) : Memory.read32 [] a = 0 := by
  have h : ((0 : Byte) ++ (0 : Byte) ++ (0 : Byte) ++ (0 : Byte) : Word) = 0 := by decide
  exact h

/-- The command answers a next state. -/
def runs (r : Result) : Bool :=
  match r with
  | .next _ => true
  | _ => false

/-- What it answers is the state it leaves. -/
theorem next_of_runs {r : Result} (h : runs r = true) : r = .next (after r) := by
  cases r with
  | next t => rfl
  | fault f => cases f
  | refused e => cases h

/-- The invariant holds of the configured instance. -/
theorem inv_configured4 : Inv configured4 where
  canonical := Memory.wf_nil
  mirror _ _ := (read32_nil _).trans (read32_nil _).symm
  length := by decide
  padded := by decide
  padding _ _ _ := read32_nil _
  cursor := by decide
  configured _ := by decide
  unconfigured h := absurd h (by decide)
  inert := by decide
  silent h := absurd h (by decide)
  allocFail h := absurd h (by decide)
  window := .inl ⟨rfl, rfl⟩

/-- The invariant holds of the inert instance. -/
theorem inv_inert4 : Inv inert4 where
  canonical := Memory.wf_nil
  mirror _ _ := (read32_nil _).trans (read32_nil _).symm
  length := by decide
  padded := by decide
  padding _ _ _ := read32_nil _
  cursor := by decide
  configured _ := by decide
  unconfigured h := absurd h (by decide)
  inert := by decide
  silent _ := ⟨fun _ _ => read32_nil _, fun _ _ => read32_nil _, rfl, rfl, rfl, rfl⟩
  allocFail _ := rfl
  window := .inl ⟨rfl, rfl⟩

/-- The memory with the identity impulse, and the least normal number as first input sample. -/
def identityMem : Memory := (Memory.write32 [] 0x0803C 0x3F800000).write32 0x0A000 0x00800000

/-- The configured instance with the identity impulse. -/
def identity4 : State := { configured4 with mem := identityMem, impLen := 1, impPadLen := 16 }

/-- Outside the two words written, that memory reads zero. -/
theorem identityMem_zero {a : Nat} (h : a + 4 ≤ 0x0803C ∨ 0x08040 ≤ a) (h' : a + 4 ≤ 0x0A000 ∨ 0x0A004 ≤ a) :
    identityMem.read32 a = 0 := by
  rw [identityMem, Memory.read32_write32_outside _ _ h', Memory.read32_write32_outside _ _ h, read32_nil]

theorem identityMem_hist {i : Nat} (h : i < 8192) : identityMem.hist i = 0 := by
  refine identityMem_zero (.inl ?_) (.inl ?_) <;> simp only [Region.base] <;> omega

theorem identityMem_imp {i : Nat} (h : i < 2048) (h' : i ≠ 15) : identityMem.imp i = 0 := by
  refine identityMem_zero ?_ (.inl ?_) <;> simp only [Region.base] <;> omega

/-- The invariant holds of the instance with the identity impulse. -/
theorem inv_identity4 : Inv identity4 where
  canonical := show Memory.wf identityMem from Memory.wf_write32 _ _ (Memory.wf_write32 _ _ Memory.wf_nil)
  mirror i hi := (identityMem_hist (by omega)).trans (identityMem_hist (by omega)).symm
  length := by decide
  padded := by decide
  padding i hi h := identityMem_imp hi (by
    have h1 : identity4.impPadLen.toNat = 16 := rfl
    have h2 : identity4.impLen.toNat = 1 := rfl
    omega)
  cursor := by decide
  configured _ := by decide
  unconfigured h := absurd h (by decide)
  inert := by decide
  silent h := absurd h (by decide)
  allocFail h := absurd h (by decide)
  window := .inl ⟨rfl, rfl⟩

theorem witness_DecodeOfEncode :
    (Instr.vshufI64 15 0 15 3).wellFormed = true ∧ (Instr.loadimp true 0xFFFFFFFF 0 0xFFFFFFFF 0).wellFormed = true := by
  decide

theorem witness_EncodeOfDecode : decode [0x24CF0F03] = .ok (.vshufI64 15 0 15 3) := by decide

/-- One witness for each clause, at the edges of the opcode map. -/
theorem witness_PacketErrorOrder :
    (field 0x06000000 31 24 = 0x06 ∧ field 0x2FFFFFFF 31 24 = 0x2F) ∧
    (∀ op ∈ [0x06, 0x0F, 0x25, 0x27, 0x30, 0xFF], ¬ mapped op) ∧
    (∀ op ∈ [0x03, 0x05, 0x10, 0x24, 0x28, 0x2F], mapped op ∧ ¬ accepts .c op) ∧
    (∀ op ∈ [0x01, 0x02, 0x04], mapped op ∧ ¬ accepts .p op) ∧
    (mapped (field 0x03000001 31 24) ∧ accepts .p (field 0x03000001 31 24) ∧ ∀ i, decode [0x03000001] ≠ .ok i) := by
  refine ⟨by decide, by unfold mapped; decide, by unfold mapped accepts; decide, by unfold mapped accepts; decide,
    by unfold mapped; decide, by unfold accepts; decide, fun i h => ?_⟩
  have e : decode [0x03000001] = .error .malformed := by decide
  rw [e] at h
  cases h

/-- A packet waiting on each port, and a choice of the arbiter. -/
def waiting (port : Port) : State :=
  { State.reset with queueC := [[0x04000007]], queueP := [[0x03000000], [0]], schedule := [.serve port] }

theorem witness_StepRunsDecodedCommand :
    (waiting .c).schedule = [.serve .c] ∧ (waiting .c).queue .c = [[0x04000007]] ∧ decode [0x04000007] = .ok (.clrdiag 7) ∧
    (waiting .p).schedule = [.serve .p] ∧ (waiting .p).queue .p = [[0x03000000], [0]] ∧ decode [0x03000000] = .ok .process ∧
    (scheduled (.serve .c)).schedule = [.serve .c] ∧ (scheduled (.serve .c)).queue .c = [] ∧
    (scheduled (.changeSources sourcesST)).schedule = [.changeSources sourcesST] ∧ State.reset.schedule = [] :=
  ⟨rfl, rfl, by decide, rfl, rfl, by decide, rfl, rfl, rfl, rfl⟩

theorem witness_PresentedPacketsWaitInOrder :
    (scheduled (.present .c [0])).schedule = .present .c [0] :: [] ∧
      (scheduled (.present .p [])).schedule = .present .p [] :: [] := ⟨rfl, rfl⟩

/-- The last readable word, the first address above it, and an unaligned one. -/
theorem witness_HostReadReturnsTheWord :
    (scheduled (.hostRead 0x11FFC)).schedule = .hostRead 0x11FFC :: [] ∧
    ((0x11FFC : Word).toNat % 4 = 0 ∧ (0x11FFC : Word).toNat < 0x12000) ∧
    0x12000 ≤ (0x12000 : Word).toNat ∧ (2 : Word).toNat % 4 ≠ 0 := ⟨rfl, by decide +kernel⟩

/-- The first and the last writable word, the words beside them, and an unaligned address. -/
theorem witness_HostWriteStoresTheWord :
    (scheduled (.hostWrite 0x0A000 1)).schedule = .hostWrite 0x0A000 1 :: [] ∧
    ((0x0A000 : Word).toNat % 4 = 0 ∧ 0x0A000 ≤ (0x0A000 : Word).toNat ∧ (0x0A000 : Word).toNat ≤ 0x11FFF) ∧
    ((0x11FFC : Word).toNat % 4 = 0 ∧ 0x0A000 ≤ (0x11FFC : Word).toNat ∧ (0x11FFC : Word).toNat ≤ 0x11FFF) ∧
    (0x09FFC : Word).toNat < 0x0A000 ∧ 0x11FFF < (0x12000 : Word).toNat ∧ (0x0A002 : Word).toNat % 4 ≠ 0 :=
  ⟨rfl, by decide +kernel⟩

/-- The last register's number, and the first number that names none. -/
theorem witness_StatusRegistersReadAsTheSpecSays :
    (scheduled (.csrRead 11)).schedule = .csrRead 11 :: [] ∧ 12 ≤ (12 : Word).toNat ∧
      (scheduled (.csrRead 12)).schedule = .csrRead 12 :: [] := ⟨rfl, by decide, rfl⟩

theorem witness_ResetValues : (scheduled .reset).schedule = .reset :: [] := rfl

/-- A step that writes memory, from a state with the invariant. -/
theorem witness_EveryStepKeepsTheInvariant :
    Inv configured4 ∧ step configured4 = .next configured4 ∧ Inv identity4 ∧
      step (identity4.withPacket .p [0x03000000]) = .next (after (step (identity4.withPacket .p [0x03000000]))) :=
  ⟨inv_configured4, rfl, inv_identity4, next_of_runs (by decide +kernel)⟩

/-- Every code a command can answer with; this serves the statements that speak of a command's answer. -/
theorem witness_answers :
    exec .nop resetC = .next (after (exec .nop resetC)) ∧ (after (exec .nop resetC)).output = .response .ok 0 ∧
    exec .process resetC = .next (after (exec .process resetC)) ∧
    (after (exec .process resetC)).output = .response .port 0 ∧
    (after (exec .process State.reset)).output = .response .notConfigured 0 ∧
    (after (exec (.config .native 0 0) resetC)).output = .response .badConfig 0 ∧
    (after (exec (.vaddI32 0 0 0) noSimd)).output = .response .noSimd 0 ∧
    (after (exec (.vlduF32 0 0x12000) State.reset)).output = .response .addr 0 :=
  ⟨next_of_runs (by decide +kernel), by decide +kernel, next_of_runs (by decide +kernel), by decide +kernel⟩

theorem witness_WrongPortAndMissingUnitAreRefused :
    ¬ accepts resetC.port (opcodeOf (.vaddI32 0 0 0)) ∧ (Instr.vlduF32 0 0x12000).wellFormed = true ∧
      0x10 ≤ opcodeOf (.vlduF32 0 0x12000) ∧ noSimd.port = .p ∧ noSimd.params.simdPresent = false :=
  ⟨fun h => absurd h (by show ¬ (_ ∨ _ ∨ _ ∨ _); decide), rfl, by decide, rfl, rfl⟩

/-- The three cases of every VectorOps result: this serves the statements `BroadcastFillsEveryLane` to
`NarrowWidenResult`. -/
theorem witness_VectorOutcome :
    resetC.port = .c ∧ (noSimd.port = .p ∧ noSimd.params.simdPresent = false) ∧
      (State.reset.port = .p ∧ State.reset.params.simdPresent = true) := by decide

theorem witness_BitwiseResult :
    (Instr.vandnI64 0 1 2 = .vandnF32 0 1 2 ∨ Instr.vandnI64 0 1 2 = .vandnF64 0 1 2 ∨
      Instr.vandnI64 0 1 2 = .vandnI32 0 1 2 ∨ Instr.vandnI64 0 1 2 = .vandnI64 0 1 2) ∧
    (fun a b => !a && b) = (fun a b : Bool => !a && b) := by decide

theorem witness_SelectResult :
    Instr.vselF64 0 1 2 3 = .vselF32 0 1 2 3 ∨ Instr.vselF64 0 1 2 3 = .vselF64 0 1 2 3 ∨
      Instr.vselF64 0 1 2 3 = .vselI32 0 1 2 3 ∨ Instr.vselF64 0 1 2 3 = .vselI64 0 1 2 3 := by decide

/-- The last address inside each region, and the first across its end. -/
theorem witness_LoadResult :
    (∀ a ∈ [0x07FF0, 0x09FF0, 0x0DFF0, 0x11FF0], a + 15 ≤ 0x07FFF ∨ 0x08000 ≤ a ∧ a + 15 ≤ 0x09FFF ∨
      0x0A000 ≤ a ∧ a + 15 ≤ 0x0DFFF ∨ 0x0E000 ≤ a ∧ a + 15 ≤ 0x11FFF) ∧
    ∀ a ∈ [0x07FF1, 0x09FF1, 0x0DFF1, 0x11FF1, 0xFFFFFFFF], ¬ (a + 15 ≤ 0x07FFF ∨ 0x08000 ≤ a ∧ a + 15 ≤ 0x09FFF ∨
      0x0A000 ≤ a ∧ a + 15 ≤ 0x0DFFF ∨ 0x0E000 ≤ a ∧ a + 15 ≤ 0x11FFF) := by decide

/-- The first and the last address inside each region, and the addresses beside them. -/
theorem witness_StoreResult :
    (∀ a ∈ [0x0A000, 0x0DFF0, 0x0E000, 0x11FF0], 0x0A000 ≤ a ∧ a + 15 ≤ 0x0DFFF ∨ 0x0E000 ≤ a ∧ a + 15 ≤ 0x11FFF) ∧
    ∀ a ∈ [0x09FFF, 0x0DFF1, 0x0DFFF, 0x11FF1], ¬ (0x0A000 ≤ a ∧ a + 15 ≤ 0x0DFFF ∨ 0x0E000 ≤ a ∧ a + 15 ≤ 0x11FFF) := by
  decide

theorem witness_ShuffleResult :
    (Instr.vshufI32 0 1 2 0xFF = .vshufF32 0 1 2 0xFF ∨ Instr.vshufI32 0 1 2 0xFF = .vshufI32 0 1 2 0xFF) ∧
    (3 : BitVec 8).toNat < 4 ∧ 4 ≤ (4 : BitVec 8).toNat := by decide

/-- One state for each port, and operands at the edges of the four checks. -/
theorem witness_ConfigResult :
    State.reset.port = .p ∧ resetC.port = .c ∧
    (∀ b ∈ [1, 1024], 1 ≤ b ∧ b ≤ 1024 ∧ 1024 % b = 0 ∧ 4096 % b = 0 ∧ 2048 + 1024 < 4096) ∧
    ¬ (1 ≤ 0 ∧ 0 ≤ 0 ∧ 0 % 0 = 0 ∧ 4096 % 0 = 0 ∧ 2048 + 0 < 4096) ∧
    ¬ (1 ≤ 1024 ∧ 1024 ≤ 2048 ∧ 2048 % 1024 = 0 ∧ 4096 % 1024 = 0 ∧ 2048 + 2048 < 4096) := by decide

/-- Reset on port C with the sources `S` and `T`. -/
def sourcesC : State := { withSources with port := .c }

/-- The source `T`. -/
def sourceT : Source := { frames := 3, channels := 1, format := 0, samples := [0x3F800000, 0x40000000, 0x40400000] }

theorem witness_LoadimpResult :
    sourcesC.port = .c ∧ sourcesC.status.inert = false ∧ sourceOf sourcesC.sources 2 = some sourceT ∧
      sourceT.channels ≠ 0 ∧ sourceT.format = 0 := by decide

theorem witness_LoadimpWithoutSource :
    State.reset.port = .p ∧ inert4.status.inert = true ∧ sourcesC.port = .c ∧ sourcesC.status.inert = false ∧
      ∀ src, sourceOf sourcesC.sources 9 = some src → src.channels = 0 ∨ src.format ≠ 0 :=
  ⟨rfl, rfl, rfl, rfl, fun src h => absurd h (by simp [sourcesC, withSources, sourcesST, sourceOf])⟩

/-- This serves the statements about PROCESS that an instance which is not inert meets: `ProcessCompletes`,
`ProcessIngestsTheBlock`, `ProcessComputesTheKernel`. -/
theorem witness_ProcessCompletes :
    resetC.port = .c ∧ (State.reset.port = .p ∧ State.reset.status.configured = false) ∧
      Inv configured4 ∧ configured4.port = .p ∧ configured4.status.configured = true ∧ configured4.status.inert = false :=
  ⟨rfl, ⟨rfl, rfl⟩, inv_configured4, rfl, rfl, rfl⟩

theorem witness_InertProcessIsSilent :
    Inv inert4 ∧ inert4.port = .p ∧ inert4.status.configured = true ∧ inert4.status.inert = true :=
  ⟨inv_inert4, rfl, rfl, rfl⟩

theorem witness_RingHoldsTheStream :
    (resetC.status.inert = false ∧ exec (.config .native 4 4) resetC = .next (after (exec (.config .native 4 4) resetC)) ∧
      (after (exec (.config .native 4 4) resetC)).output = .response .ok 0) ∧
    Inv configured4 ∧ configured4.status.inert = false ∧ RingHolds configured4 [] ∧
      exec .process configured4 = .next (after (exec .process configured4)) ∧
      (after (exec .process configured4)).output = .response .ok 0 := by
  exact ⟨⟨rfl, next_of_runs (by decide +kernel), by decide +kernel⟩, inv_configured4, rfl,
    ⟨rfl, fun k hk => (read32_nil _).trans (if_pos (by simpa using hk)).symm⟩,
    next_of_runs (by decide +kernel), by decide +kernel⟩

/-- The clauses of `RingHoldsTheStream` about an inert instance, about reset and about every other step, the last one
also where PROCESS is refused. -/
theorem witness_RingHoldsTheStream_other_steps :
    (Inv inert4 ∧ inert4.status.inert = true ∧ RingHolds inert4 [] ∧
      exec .process inert4 = .next (after (exec .process inert4))) ∧
    ((scheduled .reset).Resets ∧ step (scheduled .reset) = .next (after (step (scheduled .reset)))) ∧
    (RingHolds (waiting .p) [] ∧ step (waiting .p) = .next (after (step (waiting .p))) ∧ ¬ (waiting .p).Resets ∧
      (waiting .p).Executes .process ∧ (after (step (waiting .p))).output ≠ .response .ok 0) :=
  ⟨⟨inv_inert4, rfl, ⟨rfl, fun k hk => (read32_nil _).trans (if_pos (by simpa using hk)).symm⟩,
      next_of_runs (by decide +kernel)⟩,
    ⟨⟨[], rfl⟩, next_of_runs (by decide +kernel)⟩,
    ⟨rfl, fun k hk => (read32_nil _).trans (if_pos (by simpa using hk)).symm⟩, next_of_runs (by decide +kernel),
    fun ⟨_, h⟩ => (nomatch h), ⟨.p, [], [0x03000000], [[0]], rfl, rfl, by decide⟩, by decide +kernel⟩

/-- The clause of `ConfigurationChangesOnlyByConfigAndReset` about every step: a step that serves PROCESS. -/
theorem witness_ConfigurationChangesOnlyByConfigAndReset :
    step (waiting .p) = .next (after (step (waiting .p))) ∧ ¬ (waiting .p).Resets ∧
      (waiting .p).Executes .process ∧ opcodeOf .process ≠ 0x01 :=
  ⟨next_of_runs (by decide +kernel), fun ⟨_, h⟩ => (nomatch h), ⟨.p, [], [0x03000000], [[0]], rfl, rfl, by decide⟩,
    by decide⟩

theorem witness_PaddedTapsConvolveTheSource :
    (fun x : Word => (x.toNat : Int)) 0 = 0 ∧ sourcesC.port = .c ∧ sourcesC.status.inert = false ∧
      sourceOf sourcesC.sources 2 = some sourceT ∧ sourceT.channels ≠ 0 ∧ sourceT.format = 0 ∧
      exec (.loadimp false 2 0 0 1) sourcesC = .next (after (exec (.loadimp false 2 0 0 1) sourcesC)) :=
  ⟨by decide, rfl, rfl, by decide, by decide, rfl, next_of_runs (by decide +kernel)⟩

theorem witness_ZeroLengthIsSilent :
    Inv configured4 ∧ configured4.port = .p ∧ configured4.status.configured = true ∧ configured4.impPadLen = 0 :=
  ⟨inv_configured4, rfl, rfl, rfl⟩

theorem witness_IdentityImpulseReturnsTheInput :
    Inv identity4 ∧ identity4.port = .p ∧ identity4.status.configured = true ∧ identity4.status.inert = false ∧
      identity4.status.width = .native ∧ identity4.impLen = 1 ∧ identity4.mem.imp 15 = 0x3F800000 ∧
      (∀ k, k < 15 → f32.mag (identity4.mem.hist (identity4.inPos.toNat + 4081 + k)) < f32.infMag) ∧
      (∀ i, i < identity4.cfgBlock.toNat → f32.mag (identity4.mem.inb32 i) < f32.infMag) := by
  exact ⟨inv_identity4, rfl, rfl, rfl, rfl, rfl, by decide +kernel, by decide +kernel, by decide +kernel⟩

theorem witness_LoadimpIsIdempotent :
    sourcesC.port = .c ∧ resetC.port = .c ∧ sourcesC.status.inert = false ∧
      ({ sourcesC with impLen := 7 } : State).status.inert = false ∧
      sourcesC.sources = ({ sourcesC with impLen := 7 } : State).sources ∧
      exec (.loadimp false 2 0 0 1) sourcesC = .next (after (exec (.loadimp false 2 0 0 1) sourcesC)) ∧
      exec (.loadimp false 2 0 0 1) { sourcesC with impLen := 7 } =
        .next (after (exec (.loadimp false 2 0 0 1) { sourcesC with impLen := 7 })) :=
  ⟨rfl, rfl, rfl, rfl, rfl, next_of_runs (by decide +kernel), next_of_runs (by decide +kernel)⟩

/-- Operands of each kind the rounding and comparison statements speak of. -/
theorem witness_FloatStatements :
    f32.value 0x3F800000 = .fin false (2 ^ 149) ∧ f32.value 0xBF800000 = .fin true (2 ^ 149) ∧
      signedQuanta false (2 ^ 149) + signedQuanta false (2 ^ 149) ≠ 0 ∧ (2 ^ 149 : Nat) ≠ 0 ∧
      f32.isNaN 0x7FC00000 = true ∧ f32.isNaN 0x3F800000 = false ∧ 0 < f32.mag 0x3F800000 ∧
      f32.mag 0x3F800000 < f32.infMag ∧ f64.isNaN 0x7FF8000000000000 = true ∧ f64.isNaN 0 = false ∧
      0 < f64.mag 1 ∧ f64.mag 1 < f64.infMag ∧ f64.value 1 = .fin false 1 := by decide +kernel

/-- A finite double, the infinity and a NaN of each format, and a subnormal binary32 (43_vec_mem_shuffle_convert.md
R238's example for the least one). -/
theorem witness_NarrowRoundsAndUndoesWiden :
    f64.value 0x3FF0000000000000 = .fin false (2 ^ 1074) ∧ f64.value 0xFFF0000000000000 = .inf true ∧
      f64.value 0x7FF8000000000000 = .nan ∧ f32.value 1 = .fin false 1 ∧ f32.value 0x7F800000 = .inf false ∧
      f32.value 0x7FC00000 = .nan ∧ f32.isNaN 1 = false ∧ f32.Subnormal 1 ∧ ¬ f32.Subnormal 0x3F800000 ∧
      widen 0 1 = 0x36A0000000000000 := by
  unfold FloatFormat.Subnormal
  decide +kernel

/-- A product that is subnormal and one that is not; this serves `FlushActsOnTheRoundedResult`. -/
theorem witness_FlushActsOnTheRoundedResult :
    f32.Subnormal (f32.mul false 0 0x00800000 0x3F000000) ∧ ¬ f32.Subnormal (f32.mul false 0 0x3F800000 0x3F800000) ∧
      f32.Subnormal (narrow false 0 0x37A16C262777579C) ∧ ¬ f32.Subnormal (narrow false 0 0x3FF0000000000000) := by
  unfold FloatFormat.Subnormal
  decide +kernel

/-- Reset with a vector in V1 and one in V2. -/
def two : State := sources2 (vec32 3 (-1) 0x80000000 7) (vec32 2 1 0x7FFFFFFF 7)

/-- The command chains of the two syntheses, on registers that meet the side conditions (V1, V2 sources, V3 the
mask, V4, V5 temporaries, V0 the result). -/
theorem witness_IntegerMinMaxEmulation :
    two.port = .p ∧ two.params.simdPresent = true ∧ (3 : VReg) ≠ 1 ∧ (3 : VReg) ≠ 2 ∧ (4 : VReg) ≠ 1 ∧ (4 : VReg) ≠ 2 ∧
      (4 : VReg) ≠ 3 ∧ (4 : VReg) ≠ 5 ∧
      ∃ s1 s2 s3 s4 t, exec (.vcmpgtI32 3 1 2) two = .next s1 ∧ exec (.vandI32 4 3 2) s1 = .next s2 ∧
        exec (.vandnI32 5 3 1) s2 = .next s3 ∧ exec (.vorI32 0 4 5) s3 = .next s4 ∧ exec (.vminI32 0 1 2) two = .next t :=
  ⟨rfl, rfl, by decide, by decide, by decide, by decide, by decide, by decide, _, _, _, _, _, rfl, rfl, rfl, rfl, rfl⟩

theorem witness_SelectEmulation :
    two.port = .p ∧ two.params.simdPresent = true ∧ (4 : VReg) ≠ 1 ∧ (4 : VReg) ≠ 3 ∧ (4 : VReg) ≠ 5 ∧
      ∃ s1 s2 s3 t, exec (.vandF32 4 3 2) two = .next s1 ∧ exec (.vandnF32 5 3 1) s1 = .next s2 ∧
        exec (.vorF32 0 4 5) s2 = .next s3 ∧ exec (.vselF32 0 1 2 3) two = .next t :=
  ⟨rfl, rfl, by decide, by decide, by decide, _, _, _, _, rfl, rfl, rfl, rfl⟩

theorem witness_TruthIsMaskAndOne :
    two.port = .p ∧ two.params.simdPresent = true ∧ (4 : VReg) ≠ 3 ∧
      (∃ s1 s2 s3 t, exec (.vcmpeqF32 3 1 2) two = .next s1 ∧ exec (.vbcastF32 4 0x3F800000) s1 = .next s2 ∧
        exec (.vandF32 0 3 4) s2 = .next s3 ∧ exec (.vteqF32 0 1 2) two = .next t) ∧
      (∃ s1 s2 s3 t, exec (.vcmpltF64 3 1 2) two = .next s1 ∧ exec (.vbcastF64 4 0x3FF0000000000000) s1 = .next s2 ∧
        exec (.vandF64 0 3 4) s2 = .next s3 ∧ exec (.vtltF64 0 1 2) two = .next t) :=
  ⟨rfl, rfl, by decide, ⟨_, _, _, _, rfl, rfl, rfl, rfl⟩, ⟨_, _, _, _, rfl, rfl, rfl, rfl⟩⟩

theorem witness_StoreThenLoadReturnsTheBits :
    exec (.vstuI32 1 0x0E008) two = .next (after (exec (.vstuI32 1 0x0E008) two)) ∧
      (after (exec (.vstuI32 1 0x0E008) two)).output = .response .ok 0 ∧
      exec (.vlduF32 0 0x0E008) (after (exec (.vstuI32 1 0x0E008) two)) =
        .next (after (exec (.vlduF32 0 0x0E008) (after (exec (.vstuI32 1 0x0E008) two)))) :=
  ⟨next_of_runs (by decide +kernel), by decide +kernel, next_of_runs (by decide +kernel)⟩

/-- A store changes a byte, and WRFPM is no CONFIG: this serves the statements of the last section, from
`OnlyTheirCommandsWriteTheRegions` on. -/
theorem witness_RulesAboutEveryCommand :
    Inv configured4 ∧
      exec (.vstuI32 0 0x0E000) (configured4.setReg 0 1) = .next (after (exec (.vstuI32 0 0x0E000) (configured4.setReg 0 1))) ∧
      (after (exec (.vstuI32 0 0x0E000) (configured4.setReg 0 1))).mem.byte 0x0E000 ≠
        (configured4.setReg 0 1).mem.byte 0x0E000 ∧
      (∀ mask, Instr.wrfpm true ≠ .clrdiag mask) ∧ opcodeOf (.wrfpm true) ≠ 0x01 ∧ opcodeOf (.wrfpm true) ≠ 0x02 ∧
      exec (.wrfpm true) configured4 = .next (after (exec (.wrfpm true) configured4)) ∧
      step configured4 = .next configured4 :=
  ⟨inv_configured4, next_of_runs (by decide +kernel), by decide +kernel, fun _ h => Instr.noConfusion h, by decide,
    by decide, next_of_runs (by decide +kernel), rfl⟩

end Sys2Proof.Tests
end

section
/-! PROOFS. The forms a command can have, and what follows from them for every command at once: it answers a next
state (00_scope.md R17), it does not read the family (R12), and only LOADIMP reads the sample sources
(10_state.md R36). -/

namespace Sys2Proof.Machine

open Sys2Proof.Config

/-! ### The forms of the commands -/

/-- What a register-writing VectorOps command may read: the registers, the numeric mode and the drawn bits
(40_vec_arith.md R150, R152, R153); every other field is as after reset. -/
def State.vectorView (s : State) : State := { State.reset with v := s.v, ftz := s.ftz, draws := s.draws }

/-- The ways a command runs: each engine command its own, a VectorOps command one of four shared operations. -/
inductive CommandForm : Instr → Prop
  | nop : CommandForm .nop
  | config (width : SampleWidth) (block maxBlock : BitVec 16) : CommandForm (.config width block maxBlock)
  | loadimp (explicit : Bool) (id off req chsel : Word) : CommandForm (.loadimp explicit id off req chsel)
  | process : CommandForm .process
  | clrdiag (mask3 : BitVec 3) : CommandForm (.clrdiag mask3)
  | wrfpm (z : Bool) : CommandForm (.wrfpm z)
  | register {i : Instr} (vd : VReg) (result : State → Vec) (runs : ∀ s, exec i s = writesReg s vd (result s))
      (reads : ∀ s, result s = result s.vectorView) : CommandForm i
  | load {i : Instr} (vd : VReg) (a : Nat) (runs : ∀ s, exec i s = loadVec vd a s) : CommandForm i
  | store {i : Instr} (vs : VReg) (a : Nat) (runs : ∀ s, exec i s = storeVec vs a s) : CommandForm i
  | shuffle {i : Instr} (vd va vb : VReg) (imm8 : BitVec 8) (runs : ∀ s, exec i s = shuffleCommand64 vd va vb imm8 s) :
      CommandForm i

theorem commandForm (i : Instr) : CommandForm i := by
  cases i with
  | nop => exact .nop
  | config width block maxBlock => exact .config width block maxBlock
  | loadimp explicit id off req chsel => exact .loadimp explicit id off req chsel
  | process => exact .process
  | clrdiag mask3 => exact .clrdiag mask3
  | wrfpm z => exact .wrfpm z
  | vlduF32 vd addr | vlduF64 vd addr | vlduI32 vd addr | vlduI64 vd addr => exact .load vd addr.toNat fun _ => rfl
  | vstuF32 vs addr | vstuF64 vs addr | vstuI32 vs addr | vstuI64 vs addr => exact .store vs addr.toNat fun _ => rfl
  | vshufF64 vd va vb imm8 | vshufI64 vd va vb imm8 => exact .shuffle vd va vb imm8 fun _ => rfl
  | _ => exact .register _ _ (fun _ => rfl) (fun _ => rfl)

/-! ### Every command and every step answers a next state -/

/-- The outcome is a next state. -/
def Answers (r : Result) : Prop := ∃ t, r = .next t

section Answers

variable {s : State} {k : Result}

theorem answers_next (t : State) : Answers (.next t) := ⟨t, rfl⟩

theorem answers_ite {c : Prop} [Decidable c] {k' : Result} (h : Answers k) (h' : Answers k') :
    Answers (if c then k else k') := by
  split <;> assumption

theorem onPort_answers {need : Port} (h : Answers k) : Answers (onPort need s k) := answers_ite h (answers_next _)

theorem unlessMalformed_answers {ok : Bool} (h : Answers k) : Answers (unlessMalformed ok s k) :=
  answers_ite h (answers_next _)

theorem withSimd_answers (h : Answers k) : Answers (withSimd s k) := answers_ite h (answers_next _)

theorem vectorCommand_answers (h : Answers k) : Answers (vectorCommand s k) := onPort_answers (withSimd_answers h)

end Answers

theorem exec_answers (i : Instr) (s : State) : Answers (exec i s) := by
  cases commandForm i with
  | nop => exact answers_next _
  | config => exact onPort_answers (answers_ite (answers_next _) (answers_next _))
  | loadimp => exact onPort_answers (answers_next _)
  | process => exact onPort_answers (answers_ite (answers_next _) (answers_next _))
  | clrdiag => exact onPort_answers (answers_next _)
  | wrfpm => exact onPort_answers (answers_next _)
  | register vd result runs =>
    rw [runs]
    exact vectorCommand_answers (answers_next _)
  | load vd a runs =>
    rw [runs]
    exact vectorCommand_answers (answers_ite (answers_next _) (answers_next _))
  | store vs a runs =>
    rw [runs]
    exact vectorCommand_answers (answers_ite (answers_next _) (answers_next _))
  | shuffle vd va vb imm8 runs =>
    rw [runs]
    exact onPort_answers (unlessMalformed_answers (withSimd_answers (answers_next _)))

theorem rejectPacket_answers (pkt : Packet) (e : DecodeError) (s : State) : Answers (rejectPacket pkt e s) := by
  unfold rejectPacket
  split
  · exact answers_ite (answers_next _) (answers_next _)
  · exact answers_next _

theorem execPacket_answers (pkt : Packet) (s : State) : Answers (execPacket pkt s) := by
  unfold execPacket
  split
  · exact exec_answers _ s
  · exact rejectPacket_answers pkt _ s

theorem serve_answers (port : Port) (s : State) : Answers (serve port s) := by
  cases h : s.queue port with
  | nil =>
    rw [serve_idle h]
    exact answers_next _
  | cons pkt rest =>
    rw [serve_executes h]
    exact execPacket_answers pkt _

theorem takeInput_answers (input : Input) (s : State) : Answers (takeInput input s) := by
  cases input with
  | serve port => exact serve_answers port s
  | _ => exact answers_next _

theorem step_answers (s : State) : Answers (step s) := by
  cases h : s.schedule with
  | nil =>
    rw [step_idle h]
    exact answers_next s
  | cons input rest =>
    rw [step_takes h]
    exact takeInput_answers input _

/-- Settles O11: a step takes one input, and no form of a command, no packet that is none and no other input ends in
anything but a next state. -/
theorem everyStepHasANextState : Obligations.EveryStepHasANextState :=
  ⟨step_answers, exec_answers⟩

/-! ### The family and the sources -/

/-- Apply a map of states to the next state of an outcome. -/
def Result.map (f : State → State) : Result → Result
  | .next s => .next (f s)
  | .fault r => .fault r
  | .refused r => .refused r

theorem Result.ite_map (f : State → State) (c : Prop) [Decidable c] (k k' : Result) :
    (if c then k.map f else k'.map f) = (if c then k else k').map f := (apply_ite (Result.map f) c k k').symm

/-- The state with another instruction family and another source directory, each computed from the present one: the
identity leaves it, a constant replaces it (00_scope.md R12; 10_state.md R36). -/
def State.mapEnv (f : Family → Family) (d : Directory → Directory) (s : State) : State :=
  { s with params := { s.params with family := f s.params.family }, sources := d s.sources }

section Environment

variable (f : Family → Family) (d : Directory → Directory) (s : State)

/-! The shared operations commute with the change: none reads the family or a source. -/

theorem done_mapEnv : done (s.mapEnv f d) = (done s).map (State.mapEnv f d) := rfl

theorem onPort_mapEnv (need : Port) (k : Result) :
    onPort need (s.mapEnv f d) (k.map (State.mapEnv f d)) = (onPort need s k).map (State.mapEnv f d) :=
  Result.ite_map _ _ k (refuse .port s)

theorem unlessMalformed_mapEnv (ok : Bool) (k : Result) :
    unlessMalformed ok (s.mapEnv f d) (k.map (State.mapEnv f d)) = (unlessMalformed ok s k).map (State.mapEnv f d) :=
  Result.ite_map _ _ k (refuse .illegal s)

/-- The capability check reads `SIMD_PRESENT`, which is neither the family nor a source. -/
theorem withSimd_mapEnv (k : Result) :
    withSimd (s.mapEnv f d) (k.map (State.mapEnv f d)) = (withSimd s k).map (State.mapEnv f d) :=
  Result.ite_map _ _ k (refuse .noSimd s)

theorem vectorCommand_mapEnv (k : Result) :
    vectorCommand (s.mapEnv f d) (k.map (State.mapEnv f d)) = (vectorCommand s k).map (State.mapEnv f d) := by
  rw [vectorCommand, withSimd_mapEnv, onPort_mapEnv, vectorCommand]

theorem writesReg_mapEnv (vd : VReg) (x : Vec) :
    writesReg (s.mapEnv f d) vd x = (writesReg s vd x).map (State.mapEnv f d) :=
  vectorCommand_mapEnv f d s (done (s.setReg vd x))

theorem loadVec_mapEnv (vd : VReg) (a : Nat) :
    loadVec vd a (s.mapEnv f d) = (loadVec vd a s).map (State.mapEnv f d) := by
  unfold loadVec
  rw [← vectorCommand_mapEnv, ← Result.ite_map]
  rfl

theorem storeVec_mapEnv (vs : VReg) (a : Nat) :
    storeVec vs a (s.mapEnv f d) = (storeVec vs a s).map (State.mapEnv f d) := by
  unfold storeVec
  rw [← vectorCommand_mapEnv, ← Result.ite_map]
  rfl

theorem shuffleCommand64_mapEnv (vd va vb : VReg) (imm8 : BitVec 8) :
    shuffleCommand64 vd va vb imm8 (s.mapEnv f d) = (shuffleCommand64 vd va vb imm8 s).map (State.mapEnv f d) := by
  unfold shuffleCommand64
  rw [← onPort_mapEnv, ← unlessMalformed_mapEnv, ← withSimd_mapEnv]
  rfl

theorem execConfig_mapEnv (width : SampleWidth) (block maxBlock : BitVec 16) :
    execConfig width block maxBlock (s.mapEnv f d) = (execConfig width block maxBlock s).map (State.mapEnv f d) := by
  unfold execConfig
  rw [← onPort_mapEnv, ← Result.ite_map]
  rfl

/-! PROCESS: what it reads is not the environment, so its block is the same one. -/

@[simp] theorem mapEnv_status : (s.mapEnv f d).status = s.status := rfl
@[simp] theorem mapEnv_inPos : (s.mapEnv f d).inPos = s.inPos := rfl
@[simp] theorem mapEnv_ftz : (s.mapEnv f d).ftz = s.ftz := rfl
@[simp] theorem setFtz_mapEnv (z : Bool) : (s.mapEnv f d).setFtz z = (s.setFtz z).mapEnv f d := rfl
@[simp] theorem ingest_mapEnv (xs : List Word) : (s.mapEnv f d).ingest xs = (s.ingest xs).mapEnv f d := rfl
@[simp] theorem inputBlock_mapEnv : (s.mapEnv f d).inputBlock = s.inputBlock := rfl
@[simp] theorem kernelBlock_mapEnv (p : Nat) : (s.mapEnv f d).kernelBlock p = s.kernelBlock p := rfl

@[simp] theorem writeOutput_mapEnv (ys : List Word) :
    (s.mapEnv f d).writeOutput ys = (s.writeOutput ys).mapEnv f d := by
  unfold State.writeOutput
  rw [mapEnv_status]
  cases s.status.width with
  | native => rfl
  | hostDouble => rfl

@[simp] theorem writeSilence_mapEnv : (s.mapEnv f d).writeSilence = s.writeSilence.mapEnv f d := by
  unfold State.writeSilence
  rw [mapEnv_status]
  cases s.status.width with
  | native => rfl
  | hostDouble => rfl

@[simp] theorem convolveBlock_mapEnv : (s.mapEnv f d).convolveBlock = s.convolveBlock.mapEnv f d := by
  simp [State.convolveBlock]

@[simp] theorem runBlock_mapEnv : (s.mapEnv f d).runBlock = s.runBlock.mapEnv f d := by
  cases hi : s.status.inert with
  | true => simp [State.runBlock, hi]
  | false => simp [State.runBlock, hi]

theorem processBlock_mapEnv : (s.mapEnv f d).processBlock = s.processBlock.mapEnv f d := by
  simp [State.processBlock, State.withFlush]

theorem execProcess_mapEnv : execProcess (s.mapEnv f d) = (execProcess s).map (State.mapEnv f d) := by
  unfold execProcess
  rw [← onPort_mapEnv, ← Result.ite_map, processBlock_mapEnv]
  rfl

/-! LOADIMP: with the sources kept, the same source is loaded. -/

theorem loadImpulse_mapEnv (explicit : Bool) (id off req chsel : Word) :
    loadImpulse explicit id off req chsel (s.mapEnv f fun dir => dir) =
      (loadImpulse explicit id off req chsel s).mapEnv f fun dir => dir := by
  have hsrc : usableSource (s.mapEnv f fun dir => dir).sources id = usableSource s.sources id := rfl
  unfold loadImpulse
  rw [hsrc, mapEnv_status]
  cases s.status.inert with
  | true => rfl
  | false =>
    cases usableSource s.sources id with
    | none => rfl
    | some src => rfl

theorem execLoadimp_mapEnv (explicit : Bool) (id off req chsel : Word) :
    execLoadimp explicit id off req chsel (s.mapEnv f fun dir => dir) =
      (execLoadimp explicit id off req chsel s).map (State.mapEnv f fun dir => dir) := by
  unfold execLoadimp
  rw [← onPort_mapEnv, loadImpulse_mapEnv]
  rfl

theorem opcodeOf_loadimp (explicit : Bool) (id off req chsel : Word) :
    opcodeOf (.loadimp explicit id off req chsel) = 0x02 :=
  word0_op ⟨by decide, by decide, by decide, by decide, by decide, by split <;> decide⟩

/-- Every command does the same in another family, and every command but LOADIMP with other sources
(00_scope.md R12; 44_impulse_loader.md R251). -/
theorem exec_mapEnv (i : Instr) (hsrc : opcodeOf i ≠ 0x02 ∨ d = fun dir => dir) :
    exec i (s.mapEnv f d) = Result.map (State.mapEnv f d) (exec i s) := by
  cases commandForm i with
  | nop => exact done_mapEnv f d s
  | config width block maxBlock => exact execConfig_mapEnv f d s width block maxBlock
  | loadimp explicit id off req chsel =>
    obtain hop | rfl := hsrc
    · exact absurd (opcodeOf_loadimp explicit id off req chsel) hop
    · exact execLoadimp_mapEnv f s explicit id off req chsel
  | process => exact execProcess_mapEnv f d s
  | clrdiag mask3 => exact onPort_mapEnv f d s .c (done (s.setDiag (s.diag.clear mask3)))
  | wrfpm z => exact onPort_mapEnv f d s .p (done (s.setFtz z))
  | register vd result runs reads =>
    have same : result (s.mapEnv f d) = result s := (reads (s.mapEnv f d)).trans (reads s).symm
    rw [runs, runs, same, writesReg_mapEnv]
  | load vd a runs => rw [runs, runs, loadVec_mapEnv]
  | store vs a runs => rw [runs, runs, storeVec_mapEnv]
  | shuffle vd va vb imm8 runs => rw [runs, runs, shuffleCommand64_mapEnv]

end Environment

/-- Settles O60: both clauses are `exec_mapEnv`, once with the family replaced and the sources kept, once the other
way round. -/
theorem commandsDependOnNoFamilyAndOnlyLoadimpOnSources :
    Obligations.CommandsDependOnNoFamilyAndOnlyLoadimpOnSources := by
  intro i s t hexec
  constructor
  · intro fam
    have hmap := exec_mapEnv (fun _ => fam) (fun dir => dir) s i (.inr rfl)
    rwa [hexec] at hmap
  · intro dir hop
    have hmap := exec_mapEnv (fun fam => fam) (fun _ => dir) s i (.inl hop)
    rwa [hexec] at hmap

end Sys2Proof.Machine
end

section
/-! PROOFS. The invariant of every reachable state, and what commands and steps leave of the state (10_state.md R26, R35,
R43, R44, R60): what each command does, said once for all commands; the part of the state the invariant reads, and which
operations leave it alone; the invariant after each operation that does not. -/

namespace Sys2Proof.Machine

open Sys2Proof.Config

/-! ### Engine commands and VectorOps commands -/

/-- The engine commands, opcodes below 0x10 (30_encoding.md R125). -/
inductive EngineCommand : Instr → Prop
  | nop : EngineCommand .nop
  | config (width : SampleWidth) (block maxBlock : BitVec 16) : EngineCommand (.config width block maxBlock)
  | loadimp (explicit : Bool) (id off req chsel : Word) : EngineCommand (.loadimp explicit id off req chsel)
  | process : EngineCommand .process
  | clrdiag (mask3 : BitVec 3) : EngineCommand (.clrdiag mask3)
  | wrfpm (z : Bool) : EngineCommand (.wrfpm z)

theorem opcodeOf_of_word0 {i : Instr} {op et vd va vb low8 : Nat} {ops : Packet}
    (h : encode i = word0 op et vd va vb low8 :: ops) (fit : FieldsFit op et vd va vb low8) : opcodeOf i = op := by
  rw [opcodeOf, h, List.headD_cons, word0_op fit]

theorem opcodeOf_config (width : SampleWidth) (block maxBlock : BitVec 16) :
    opcodeOf (.config width block maxBlock) = 0x01 :=
  opcodeOf_of_word0 rfl ⟨by decide, by decide, by decide, by decide, by decide, by split <;> decide⟩

theorem opcodeOf_engine {i : Instr} (h : EngineCommand i) : opcodeOf i < 0x10 := by
  cases h with
  | nop | process => decide
  | config width block maxBlock => simp [opcodeOf_config]
  | loadimp explicit id off req chsel => simp [opcodeOf_loadimp]
  | clrdiag mask3 =>
    rw [opcodeOf_of_word0 rfl ⟨by decide, by decide, by decide, by decide, by decide, by omega⟩]
    decide
  | wrfpm z =>
    rw [opcodeOf_of_word0 rfl ⟨by decide, by decide, by decide, by decide, by decide, by split <;> decide⟩]
    decide

theorem opcodeOf_vector {i : Instr} (h : ¬ EngineCommand i) : 0x10 ≤ opcodeOf i := by
  cases i with
  | nop => exact absurd .nop h
  | config width block maxBlock => exact absurd (.config width block maxBlock) h
  | loadimp explicit id off req chsel => exact absurd (.loadimp explicit id off req chsel) h
  | process => exact absurd .process h
  | clrdiag mask3 => exact absurd (.clrdiag mask3) h
  | wrfpm z => exact absurd (.wrfpm z) h
  | _ =>
    exact le_of_le_of_eq (by decide)
      (opcodeOf_of_word0 rfl ⟨by decide, ElemType.code_lt _, by omega, by omega, by omega, by omega⟩).symm

/-! ### What a command does, said once -/

/-- What LOADIMP may make of the diagnostics: `ALLOC_FAIL` is kept and no other bit is cleared (44_impulse_loader.md
R252, R254; 60_exceptions.md R360). -/
structure DiagRaised (d d' : Diag) : Prop where
  allocFail : d'.allocFail = d.allocFail
  srcShort : d.srcShort = true → d'.srcShort = true
  srcInvalid : d.srcInvalid = true → d'.srcInvalid = true

/-- The states a command may leave: every command may be refused (60_exceptions.md R352), and each has its own way to
end well. -/
inductive CommandEffect (s : State) : Instr → State → Prop
  | refused (i : Instr) (e : ErrCode) : CommandEffect s i (s.refused e)
  | nop : CommandEffect s .nop (s.complete 0)
  | config (width : SampleWidth) (block maxBlock : BitVec 16) (legal : configOk block.toNat maxBlock.toNat = true) :
      CommandEffect s (.config width block maxBlock) ((s.configure width block maxBlock).complete 0)
  | loadimpInert (explicit : Bool) (id off req chsel : Word) :
      CommandEffect s (.loadimp explicit id off req chsel) (s.complete 0)
  | loadimp (explicit : Bool) (id off req chsel : Word) {d : Diag} {xs : List Word} (x : Word)
      (active : s.status.inert = false) (raised : DiagRaised s.diag d) (short : xs.length ≤ impMaxLen) :
      CommandEffect s (.loadimp explicit id off req chsel) (((s.setDiag d).installImpulse xs).complete x)
  | process (configured : s.status.configured = true) : CommandEffect s .process (s.processBlock.complete 0)
  | clrdiag (mask3 : BitVec 3) : CommandEffect s (.clrdiag mask3) ((s.setDiag (s.diag.clear mask3)).complete 0)
  | wrfpm (z : Bool) : CommandEffect s (.wrfpm z) ((s.setFtz z).complete 0)
  | register {i : Instr} (vector : ¬ EngineCommand i) (vd : VReg) (x : Vec) :
      CommandEffect s i ((s.setReg vd x).complete 0)
  | store {i : Instr} (vector : ¬ EngineCommand i) {a : Nat} (x : Vec) (inside : storable a = true) :
      CommandEffect s i ((s.setMem (s.mem.write128 a x)).complete 0)

section Effects

variable {s t : State} {i : Instr}

theorem reversedSamples_short (explicit : Bool) (off req chsel : Word) (src : Source) :
    (reversedSamples src off (effectiveLength explicit off req src) (channelIndex chsel src)).length ≤ impMaxLen := by
  simp [reversedSamples, effectiveLength]

theorem diagRaised_short (d : Diag) (short : Bool) : DiagRaised d (if short then d.setSrcShort else d) := by
  cases short with
  | true => exact ⟨rfl, fun _ => rfl, id⟩
  | false => exact ⟨rfl, id, id⟩

theorem loadImpulse_effect (explicit : Bool) (id off req chsel : Word) (s : State) :
    CommandEffect s (.loadimp explicit id off req chsel) (loadImpulse explicit id off req chsel s) := by
  rcases loadImpulse_cases explicit id off req chsel s with ⟨-, h⟩ | ⟨active, -, h⟩ | ⟨src, active, -, h⟩
  · rw [h]
    exact .loadimpInert explicit id off req chsel
  · rw [h]
    exact .loadimp explicit id off req chsel 0 active ⟨rfl, fun h => h, fun _ => rfl⟩ (Nat.zero_le _)
  · rw [h]
    exact .loadimp explicit id off req chsel _ active (diagRaised_short s.diag _) (reversedSamples_short ..)

theorem engine_effect (hi : EngineCommand i) (h : exec i s = .next t) : CommandEffect s i t := by
  cases hi with
  | nop =>
    cases h
    exact .nop
  | config width block maxBlock =>
    rcases execConfig_next h with ⟨-, legal, rfl⟩ | ⟨-, -, rfl⟩ | ⟨-, rfl⟩
    · exact .config width block maxBlock legal
    · exact .refused _ _
    · exact .refused _ _
  | loadimp explicit id off req chsel =>
    rcases execLoadimp_next h with ⟨-, rfl⟩ | ⟨-, rfl⟩
    · exact loadImpulse_effect explicit id off req chsel s
    · exact .refused _ _
  | process =>
    rcases execProcess_next h with ⟨-, configured, rfl⟩ | ⟨-, -, rfl⟩ | ⟨-, rfl⟩
    · exact .process configured
    · exact .refused _ _
    · exact .refused _ _
  | clrdiag mask3 =>
    rcases onPort_next h with ⟨-, ht⟩ | ⟨-, rfl⟩
    · cases ht
      exact .clrdiag mask3
    · exact .refused _ _
  | wrfpm z =>
    rcases onPort_next h with ⟨-, ht⟩ | ⟨-, rfl⟩
    · cases ht
      exact .wrfpm z
    · exact .refused _ _

theorem vector_effect (hi : ¬ EngineCommand i) (h : exec i s = .next t) : CommandEffect s i t := by
  cases commandForm i with
  | nop => exact absurd .nop hi
  | config width block maxBlock => exact absurd (.config width block maxBlock) hi
  | loadimp explicit id off req chsel => exact absurd (.loadimp explicit id off req chsel) hi
  | process => exact absurd .process hi
  | clrdiag mask3 => exact absurd (.clrdiag mask3) hi
  | wrfpm z => exact absurd (.wrfpm z) hi
  | register vd result runs =>
    rw [runs] at h
    rcases writesReg_next h with ⟨-, -, rfl⟩ | ⟨-, rfl⟩ | ⟨-, -, rfl⟩
    · exact .register hi vd _
    · exact .refused i _
    · exact .refused i _
  | load vd a runs =>
    rw [runs] at h
    rcases loadVec_next h with ⟨-, -, ⟨-, rfl⟩ | ⟨-, rfl⟩⟩ | ⟨-, rfl⟩ | ⟨-, -, rfl⟩
    · exact .register hi vd _
    · exact .refused i _
    · exact .refused i _
    · exact .refused i _
  | store vs a runs =>
    rw [runs] at h
    rcases storeVec_next h with ⟨-, -, ⟨inside, rfl⟩ | ⟨-, rfl⟩⟩ | ⟨-, rfl⟩ | ⟨-, -, rfl⟩
    · exact .store hi _ inside
    · exact .refused i _
    · exact .refused i _
    · exact .refused i _
  | shuffle vd va vb imm8 runs =>
    rw [runs] at h
    rcases shuffleCommand64_next h with ⟨-, -, -, rfl⟩ | ⟨-, rfl⟩ | ⟨-, -, rfl⟩ | ⟨-, -, -, rfl⟩
    · exact .register hi vd _
    · exact .refused i _
    · exact .refused i _
    · exact .refused i _

/-- A command leaves one of the states of `CommandEffect`. -/
theorem exec_effect (h : exec i s = .next t) : CommandEffect s i t := by
  by_cases hi : EngineCommand i
  · exact engine_effect hi h
  · exact vector_effect hi h

end Effects

/-! ### What PROCESS leaves alone (47_perform_dispatch.md R325, R333) -/

section Process

variable (s : State)

@[simp] theorem processBlock_v : s.processBlock.v = s.v := by
  rw [processBlock_frame]
@[simp] theorem processBlock_status : s.processBlock.status = s.status := by
  rw [processBlock_frame]
@[simp] theorem processBlock_diag : s.processBlock.diag = s.diag := by
  rw [processBlock_frame]
@[simp] theorem processBlock_cfgBlock : s.processBlock.cfgBlock = s.cfgBlock := by
  rw [processBlock_frame]
@[simp] theorem processBlock_cfgMaxBlock : s.processBlock.cfgMaxBlock = s.cfgMaxBlock := by
  rw [processBlock_frame]
@[simp] theorem processBlock_params : s.processBlock.params = s.params := by
  rw [processBlock_frame]

end Process

/-! ### Vector and engine state; the diagnostics -/

/-- A state that differs from `s` in the vector registers, memory, the response and the error record of the port only
differs so with the code that stands in the record. -/
theorem eq_of_recorded_code {s t : State} {e : ErrCode}
    (h : t = { s with v := t.v, mem := t.mem, output := t.output, status := s.status.record s.port e }) :
    t = { s with v := t.v, mem := t.mem, output := t.output,
                 status := s.status.record s.port (t.status.lastErr s.port) } := by
  have hcode : t.status.lastErr s.port = e := by
    rw [h]
    exact Status.record_lastErr s.status s.port e
  rwa [hcode]

theorem CommandEffect.v_of_engine {s t : State} {i : Instr} (h : CommandEffect s i t) (hi : EngineCommand i) :
    t.v = s.v := by
  cases h with
  | register vector vd x => exact absurd hi vector
  | process => exact processBlock_v s
  | _ => rfl

theorem CommandEffect.frame_of_vector {s t : State} {i : Instr} (h : CommandEffect s i t) (hi : ¬ EngineCommand i) :
    t = { s with v := t.v, mem := t.mem, output := t.output,
                 status := s.status.record s.port (t.status.lastErr s.port) } := by
  cases h with
  | refused i e => exact eq_of_recorded_code (e := e) rfl
  | register vector vd x => exact eq_of_recorded_code (e := .ok) rfl
  | store vector x inside => exact eq_of_recorded_code (e := .ok) rfl
  | nop => exact absurd .nop hi
  | config width block maxBlock => exact absurd (.config width block maxBlock) hi
  | loadimpInert explicit id off req chsel => exact absurd (.loadimp explicit id off req chsel) hi
  | loadimp explicit id off req chsel => exact absurd (.loadimp explicit id off req chsel) hi
  | process => exact absurd .process hi
  | clrdiag mask3 => exact absurd (.clrdiag mask3) hi
  | wrfpm z => exact absurd (.wrfpm z) hi

/-- Settles O57: the opcode tells an engine command, which writes no vector register, from a VectorOps command, whose
ways to end write vector registers, memory, the response and the error record. -/
theorem engineAndVectorStateAreSeparate : Obligations.EngineAndVectorStateAreSeparate := by
  intro i s t h
  by_cases hi : EngineCommand i
  · exact ⟨fun _ => (exec_effect h).v_of_engine hi, fun hop => absurd (opcodeOf_engine hi) (Nat.not_lt.mpr hop)⟩
  · exact ⟨fun hop => absurd hop (Nat.not_lt.mpr (opcodeOf_vector hi)), fun _ => (exec_effect h).frame_of_vector hi⟩

theorem DiagRaised.refl (d : Diag) : DiagRaised d d := ⟨rfl, id, id⟩

/-- Only CLRDIAG clears a diagnostic. -/
theorem CommandEffect.diag_raised {s t : State} {i : Instr} (h : CommandEffect s i t)
    (hclr : ∀ mask, i ≠ .clrdiag mask) : DiagRaised s.diag t.diag := by
  cases h with
  | clrdiag mask3 => exact absurd rfl (hclr mask3)
  | loadimp explicit id off req chsel x active raised short => exact raised
  | process =>
    rw [State.complete_diag, processBlock_diag]
    exact .refl s.diag
  | _ => exact .refl s.diag

/-- No command sets `ALLOC_FAIL`. -/
theorem CommandEffect.allocFail_not_set {s t : State} {i : Instr} (h : CommandEffect s i t) :
    t.diag.allocFail = true → s.diag.allocFail = true := by
  cases h with
  | clrdiag mask3 => exact fun ht => Bool.and_elim_left ht
  | loadimp explicit id off req chsel x active raised short => exact fun ht => raised.allocFail.symm.trans ht
  | process => exact fun ht => by simpa using ht
  | _ => exact id

/-- Only LOADIMP sets a source diagnostic. -/
theorem CommandEffect.source_diag_not_set {s t : State} {i : Instr} (h : CommandEffect s i t)
    (hload : opcodeOf i ≠ 0x02) :
    (t.diag.srcShort = true → s.diag.srcShort = true) ∧ (t.diag.srcInvalid = true → s.diag.srcInvalid = true) := by
  cases h with
  | clrdiag mask3 => exact ⟨fun ht => Bool.and_elim_left ht, fun ht => Bool.and_elim_left ht⟩
  | loadimp explicit id off req chsel => exact absurd (opcodeOf_loadimp explicit id off req chsel) hload
  | process => exact ⟨fun ht => by simpa using ht, fun ht => by simpa using ht⟩
  | _ => exact ⟨id, id⟩

/-- Settles O58: one clause for each of the three facts about a command's effect on the diagnostics. -/
theorem diagnosticsAreSticky : Obligations.DiagnosticsAreSticky := by
  intro i s t h
  have effect := exec_effect h
  refine ⟨fun hclr => ?_, effect.allocFail_not_set, ?_⟩
  · obtain ⟨halloc, hshort, hinvalid⟩ := effect.diag_raised hclr
    exact ⟨halloc.trans, hshort, hinvalid⟩
  · by_cases hload : opcodeOf i = 0x02
    · exact ⟨fun _ => .inr hload, fun _ => .inr hload⟩
    · obtain ⟨hshort, hinvalid⟩ := effect.source_diag_not_set hload
      exact ⟨fun ht => .inl (hshort ht), fun ht => .inl (hinvalid ht)⟩

/-! ### The part of the state the invariant reads -/

/-- What CONFIG writes and no other command: the block sizes, `CONFIGURED`, the SIMD axis and the width
(10_state.md R43, R45, R46). -/
def ConfigKept (s t : State) : Prop :=
  t.cfgBlock = s.cfgBlock ∧ t.cfgMaxBlock = s.cfgMaxBlock ∧ t.status.configured = s.status.configured ∧
    t.status.simdSel = s.status.simdSel ∧ t.status.width = s.status.width

/-- Everything `Inv` reads is as before: the configuration, the parameters, the lengths, the cursor, the window and the
bytes of HIST and IMP; `ALLOC_FAIL` may be cleared, and INB and OUTB written canonically. -/
structure EngineKept (s t : State) : Prop where
  config : ConfigKept s t
  inert : t.status.inert = s.status.inert
  params : t.params = s.params
  impLen : t.impLen = s.impLen
  impPadLen : t.impPadLen = s.impPadLen
  inPos : t.inPos = s.inPos
  winStart : t.winStart = s.winStart
  winLen : t.winLen = s.winLen
  allocFail : t.diag.allocFail = true → s.diag.allocFail = true
  canonical : Memory.wf s.mem → Memory.wf t.mem
  bytes : ∀ a, a < Region.inb.base → t.mem.byte a = s.mem.byte a

namespace EngineKept

variable {s t u : State}

theorem hist (h : EngineKept s t) {i : Nat} (hi : i < 8192) : t.mem.hist i = s.mem.hist i := by
  have hb : Region.hist.base = 0 := rfl
  have he : Region.inb.base = 0xA000 := rfl
  exact Memory.read32_congr fun c _ hc => h.bytes c (by omega)

theorem imp (h : EngineKept s t) {i : Nat} (hi : i < 2048) : t.mem.imp i = s.mem.imp i := by
  have hb : Region.imp.base = 0x8000 := rfl
  have he : Region.inb.base = 0xA000 := rfl
  exact Memory.read32_congr fun c _ hc => h.bytes c (by omega)

/-- The invariant reads nothing else. -/
theorem inv (h : EngineKept s t) (hs : Inv s) : Inv t := by
  obtain ⟨hblock, hmax, hconfigured, hsimd, hwidth⟩ := h.config
  constructor
  case canonical => exact h.canonical hs.canonical
  case mirror =>
    intro i hi
    rw [h.hist (by omega), h.hist (by omega), hs.mirror i hi]
  case length => simpa only [h.impLen] using hs.length
  case padded => simpa only [h.impPadLen, h.impLen] using hs.padded
  case padding =>
    intro i hi hpad
    rw [h.impPadLen, h.impLen] at hpad
    rw [h.imp hi, hs.padding i hi hpad]
  case cursor => simpa only [h.inPos] using hs.cursor
  case configured => simpa only [hblock, hmax, hconfigured, hsimd, h.inPos, h.params] using hs.configured
  case unconfigured =>
    simpa only [hblock, hmax, hconfigured, hsimd, hwidth, h.inPos, h.winStart, h.winLen] using hs.unconfigured
  case inert => rw [h.inert, h.params, hs.inert]
  case silent =>
    intro hi
    rw [h.inert] at hi
    obtain ⟨hhist, himp, hrest⟩ := hs.silent hi
    rw [h.impLen, h.inPos, h.winStart, h.winLen]
    exact ⟨fun i hi => (h.hist hi).trans (hhist i hi), fun i hi => (h.imp hi).trans (himp i hi), hrest⟩
  case allocFail =>
    rw [h.inert]
    exact fun ht => hs.allocFail (h.allocFail ht)
  case window => simpa only [h.winStart, h.winLen] using hs.window

/-! The operations that keep it. -/

theorem refl (s : State) : EngineKept s s := by
  constructor <;> simp [ConfigKept]

theorem trans (h : EngineKept s t) (h' : EngineKept t u) : EngineKept s u where
  config := by
    obtain ⟨h1, h2, h3, h4, h5⟩ := h.config
    obtain ⟨h1', h2', h3', h4', h5'⟩ := h'.config
    exact ⟨h1'.trans h1, h2'.trans h2, h3'.trans h3, h4'.trans h4, h5'.trans h5⟩
  inert := h'.inert.trans h.inert
  params := h'.params.trans h.params
  impLen := h'.impLen.trans h.impLen
  impPadLen := h'.impPadLen.trans h.impPadLen
  inPos := h'.inPos.trans h.inPos
  winStart := h'.winStart.trans h.winStart
  winLen := h'.winLen.trans h.winLen
  allocFail := fun hu => h.allocFail (h'.allocFail hu)
  canonical := fun hs => h'.canonical (h.canonical hs)
  bytes := fun a ha => (h'.bytes a ha).trans (h.bytes a ha)

theorem complete (s : State) (x : Word) : EngineKept s (s.complete x) := by
  constructor <;> simp [ConfigKept]

theorem refused (s : State) (e : ErrCode) : EngineKept s (s.refused e) := by
  constructor <;> simp [ConfigKept]

theorem setReg (s : State) (r : VReg) (x : Vec) : EngineKept s (s.setReg r x) := { refl s with }

theorem setFtz (s : State) (z : Bool) : EngineKept s (s.setFtz z) := { refl s with }

theorem answer (s : State) (o : Output) : EngineKept s (s.answer o) := { refl s with }

theorem setQueue (s : State) (port : Port) (q : List Packet) : EngineKept s (s.setQueue port q) := by
  constructor <;> simp [ConfigKept]

theorem taking (s : State) (port : Port) (q : List Packet) : EngineKept s (s.taking port q) := by
  constructor <;> simp [ConfigKept]

theorem schedule (s : State) (rest : List Input) : EngineKept s { s with schedule := rest } := { refl s with }

theorem sources (s : State) (dir : Directory) : EngineKept s { s with sources := dir } := { refl s with }

theorem setDiag {d : Diag} (h : d.allocFail = true → s.diag.allocFail = true) : EngineKept s (s.setDiag d) :=
  { refl s with allocFail := h }

/-- A write above IMP. -/
theorem setMem {m : Memory} (hwf : Memory.wf s.mem → Memory.wf m)
    (hbytes : ∀ a, a < Region.inb.base → m.byte a = s.mem.byte a) : EngineKept s (s.setMem m) :=
  { refl s with canonical := hwf, bytes := hbytes }

theorem writeSamples (s : State) (xs : List Word) :
    EngineKept s (s.setMem (s.mem.writeSamples Region.outb.base xs)) :=
  setMem (Memory.wf_writeSamples _ xs) fun _ ha =>
    Memory.byte_writeSamples_outside _ xs (.inl (Nat.lt_trans ha (by decide)))

theorem writeSamples64 (s : State) (xs : List Dword) :
    EngineKept s (s.setMem (s.mem.writeSamples64 Region.outb.base xs)) :=
  setMem (Memory.wf_writeSamples64 _ xs) fun _ ha =>
    Memory.byte_writeSamples64_outside _ xs (.inl (Nat.lt_trans ha (by decide)))

theorem writeOutput (s : State) (ys : List Word) : EngineKept s (s.writeOutput ys) := by
  unfold State.writeOutput
  split
  · exact writeSamples s ys
  · exact writeSamples64 s _

theorem writeSilence (s : State) : EngineKept s s.writeSilence := by
  unfold State.writeSilence
  split
  · exact writeSamples s _
  · exact writeSamples64 s _

theorem write128 {a : Nat} (s : State) (x : Vec) (ha : storable a = true) :
    EngineKept s (s.setMem (s.mem.write128 a x)) := by
  have hbase : Region.inb.base ≤ a := by
    simp only [storable, contained, Bool.or_eq_true, decide_eq_true_eq] at ha
    rcases ha with ⟨ha, -⟩ | ⟨ha, -⟩
    · exact ha
    · exact Nat.le_trans (by decide) ha
  exact setMem (Memory.wf_write128 a x) fun c hc => Memory.byte_write128_outside _ x (.inl (Nat.lt_of_lt_of_le hc hbase))

theorem write32 {a : Nat} (s : State) (x : Word) (ha : hostWritable a = true) :
    EngineKept s (s.setMem (s.mem.write32 a x)) := by
  have hbase : Region.inb.base ≤ a := by
    simp only [hostWritable, decide_eq_true_eq] at ha
    obtain ⟨-, hbase, -⟩ := ha
    exact hbase
  exact setMem (Memory.wf_write32 a x) fun c hc => Memory.byte_write32_outside _ x (.inl (Nat.lt_of_lt_of_le hc hbase))

end EngineKept

/-! ### The invariant after reset, CONFIG, LOADIMP and PROCESS -/

theorem Memory.read32_nil (a : Nat) : Memory.read32 [] a = 0 := by
  simp [Memory.read32, Memory.byte, unlisted]

/-- A word of bytes that read as unlisted ones is zero. -/
theorem Memory.read32_of_unlisted {m : Memory} {a : Nat} (h : ∀ c, a ≤ c → c < a + 4 → m.byte c = unlisted c) :
    m.read32 a = 0 :=
  (Memory.read32_congr (m := []) h).trans (Memory.read32_nil a)

theorem Memory.hist_nil (i : Nat) : Memory.hist [] i = 0 := Memory.read32_nil _

theorem Memory.imp_nil (i : Nat) : Memory.imp [] i = 0 := Memory.read32_nil _

/-- R60: the state reset leaves, inert exactly when the allocation failed. -/
theorem inv_resetWith (params : Params) (dir : Directory) : Inv (State.resetWith params dir) where
  canonical := Memory.wf_nil
  mirror := fun _ _ => rfl
  length := Nat.zero_le _
  padded := by simp [State.resetWith]
  padding := fun i _ _ => Memory.imp_nil i
  cursor := Nat.zero_lt_succ _
  configured := fun h => Bool.noConfusion h
  unconfigured := fun _ => ⟨rfl, rfl, rfl, rfl, rfl, rfl, rfl⟩
  inert := rfl
  silent := fun _ => ⟨fun i _ => Memory.hist_nil i, fun i _ => Memory.imp_nil i, rfl, rfl, rfl, rfl⟩
  allocFail := id
  window := .inl ⟨rfl, rfl⟩

/-- Settles O13: `State.reset` is one of the states `inv_resetWith` speaks of. -/
theorem resetMeetsTheInvariant : Obligations.ResetMeetsTheInvariant :=
  ⟨inv_resetWith _ _, inv_resetWith⟩

/-- Settles O10: step takes the reset input, and every field of the state it leaves is written out in the model. -/
theorem resetValues : Obligations.ResetValues := by
  intro s rest h
  exact ⟨_, step_takes h, fun i _ => Memory.hist_nil i, fun i _ => Memory.imp_nil i, rfl, rfl, rfl, rfl, rfl, rfl, rfl,
    rfl, rfl, rfl, rfl, rfl, rfl, rfl, rfl⟩

section Operations

variable {s : State}

/-! CONFIG (47_perform_dispatch.md R321, R322) -/

/-- The checks of CONFIG as arithmetic (R321). -/
theorem configOk_iff (block maxBlock : Nat) : configOk block maxBlock = true ↔
    1 ≤ block ∧ block ≤ maxBlock ∧ maxBlock % block = 0 ∧ 4096 % block = 0 ∧ 2048 + maxBlock < 4096 := by
  simp only [configOk, Bool.and_eq_true, decide_eq_true_eq, and_assoc]
  rfl

theorem Memory.hist_zeroRegion (m : Memory) {i : Nat} (hi : i < 8192) : (m.zeroRegion .hist).hist i = 0 := by
  have hb : Region.hist.base = 0 := rfl
  have he : Region.hist.last = 0x7FFF := rfl
  apply Memory.read32_of_unlisted
  intro c _ hc
  rw [Memory.byte_zeroRegion, if_pos (by omega)]

theorem Memory.imp_zeroRegion_hist (m : Memory) (i : Nat) : (m.zeroRegion .hist).imp i = m.imp i := by
  have hb : Region.imp.base = 0x8000 := rfl
  have he : Region.hist.last = 0x7FFF := rfl
  apply Memory.read32_congr
  intro c hc _
  rw [Memory.byte_zeroRegion, if_neg (by omega)]

theorem imp_configure (s : State) (width : SampleWidth) (block maxBlock : BitVec 16) (i : Nat) :
    (s.configure width block maxBlock).mem.imp i = s.mem.imp i := by
  rw [State.configure_mem]
  split
  · rfl
  · exact Memory.imp_zeroRegion_hist s.mem i

/-- After CONFIG HIST is zero: with `INERT` set it was so before (R365). -/
theorem Inv.hist_configure (hs : Inv s) (width : SampleWidth) (block maxBlock : BitVec 16) {i : Nat} (hi : i < 8192) :
    (s.configure width block maxBlock).mem.hist i = 0 := by
  rw [State.configure_mem]
  split
  · rename_i hinert
    obtain ⟨hhist, -⟩ := hs.silent hinert
    exact hhist i hi
  · exact Memory.hist_zeroRegion s.mem hi

theorem Inv.configure (hs : Inv s) (width : SampleWidth) {block maxBlock : BitVec 16}
    (legal : configOk block.toNat maxBlock.toNat = true) : Inv (s.configure width block maxBlock) where
  canonical := by
    rw [State.configure_mem]
    split
    · exact hs.canonical
    · exact Memory.wf_zeroRegion .hist hs.canonical
  mirror := fun i hi => by rw [hs.hist_configure _ _ _ (by omega), hs.hist_configure _ _ _ (by omega)]
  length := hs.length
  padded := hs.padded
  padding := fun i hi hpad => (imp_configure ..).trans (hs.padding i hi hpad)
  cursor := by simp
  configured := fun _ => by
    obtain ⟨hpos, hle, hmod, hring, hcap⟩ := (configOk_iff ..).mp legal
    have hblock : (block.setWidth 32).toNat = block.toNat := BitVec.toNat_setWidth_of_le (by decide)
    have hmax : (maxBlock.setWidth 32).toNat = maxBlock.toNat := BitVec.toNat_setWidth_of_le (by decide)
    simp only [State.configure_cfgBlock, State.configure_cfgMaxBlock, State.configure_inPos, hblock, hmax]
    exact ⟨hpos, hring, by simp, by simp; omega, hle, hmod, hcap, rfl⟩
  unconfigured := fun h => Bool.noConfusion h
  inert := hs.inert
  silent := fun hinert => by
    obtain ⟨-, himp, hlen, -⟩ := hs.silent hinert
    exact ⟨fun i hi => hs.hist_configure _ _ _ hi, fun i hi => (imp_configure ..).trans (himp i hi), hlen,
      rfl, rfl, rfl⟩
  allocFail := hs.allocFail
  window := .inl ⟨rfl, rfl⟩

/-! LOADIMP (44_impulse_loader.md R256, R257, R260) -/

theorem paddedLength_eq (n : Nat) : paddedLength n = 16 * ((n + 15) / 16) := rfl

theorem Memory.hist_installImpulse (m : Memory) (xs : List Word) {i : Nat} (hi : i < 8192) :
    (m.installImpulse xs).hist i = m.hist i := by
  have hb : Region.hist.base = 0 := rfl
  have he : Region.imp.base = 0x8000 := rfl
  apply Memory.read32_congr
  intro c _ hc
  rw [Memory.installImpulse, Memory.byte_writeSamples_outside _ xs (by omega), Memory.byte_zeroRegion, if_neg (by omega)]

/-- Before the samples and behind them IMP is zero. -/
theorem Memory.imp_installImpulse_padding (m : Memory) {xs : List Word} {i : Nat} (hi : i < 2048)
    (hpad : i < paddedLength xs.length - xs.length ∨ paddedLength xs.length ≤ i) : (m.installImpulse xs).imp i = 0 := by
  have hb : Region.imp.base = 0x8000 := rfl
  have he : Region.imp.last = 0x9FFF := rfl
  have hlen : xs.length ≤ paddedLength xs.length := by
    rw [paddedLength_eq]
    omega
  apply Memory.read32_of_unlisted
  intro c _ hc
  rw [Memory.installImpulse, Memory.byte_writeSamples_outside _ xs (by omega), Memory.byte_zeroRegion, if_pos (by omega)]

theorem Inv.installImpulse (hs : Inv s) (active : s.status.inert = false) {xs : List Word}
    (short : xs.length ≤ impMaxLen) : Inv (s.installImpulse xs) := by
  have hshort : xs.length ≤ 2044 := short
  have hlen : (BitVec.ofNat 32 xs.length).toNat = xs.length := by
    rw [BitVec.toNat_ofNat]
    omega
  have hpadlen : (BitVec.ofNat 32 (paddedLength xs.length)).toNat = paddedLength xs.length := by
    rw [BitVec.toNat_ofNat, paddedLength_eq]
    omega
  constructor
  case canonical => exact Memory.wf_installImpulse xs hs.canonical
  case mirror =>
    intro i hi
    rw [State.installImpulse_mem, Memory.hist_installImpulse _ _ (by omega), Memory.hist_installImpulse _ _ (by omega),
      hs.mirror i hi]
  case length => rwa [State.installImpulse_impLen, hlen]
  case padded => rw [State.installImpulse_impPadLen, State.installImpulse_impLen, hlen, hpadlen, paddedLength_eq]
  case padding =>
    intro i hi hpad
    rw [State.installImpulse_impPadLen, State.installImpulse_impLen, hlen, hpadlen] at hpad
    exact Memory.imp_installImpulse_padding s.mem hi hpad
  case cursor => exact hs.cursor
  case configured => exact hs.configured
  case unconfigured => exact hs.unconfigured
  case inert => exact hs.inert
  case silent => exact fun hinert => absurd (active.symm.trans hinert) Bool.false_ne_true
  case allocFail => exact hs.allocFail
  case window => exact hs.window

/-! PROCESS (45_history_ring.md R271 to R276; 47_perform_dispatch.md R325, R332) -/

/-- A block written inside one half of the ring keeps the mirror (R271, R276). -/
theorem Memory.mirror_mirrorWrite {m : Memory} {q : Nat} {xs : List Word} (hfit : q + xs.length ≤ 4096)
    (hm : ∀ i, i < 4096 → m.hist i = m.hist (i + 4096)) {i : Nat} (hi : i < 4096) :
    (m.mirrorWrite xs q).hist i = (m.mirrorWrite xs q).hist (i + 4096) := by
  have hb : Region.hist.base = 0 := rfl
  have hh : histHalf = 4096 := rfl
  by_cases hin : q ≤ i ∧ i < q + xs.length
  · obtain ⟨k, rfl⟩ := Nat.exists_eq_add_of_le hin.1
    obtain ⟨hlow, hhigh⟩ := Memory.hist_mirrorWrite m q xs k (by omega) hfit
    exact hlow.trans hhigh.symm
  · have houtside : ∀ j, j = i ∨ j = i + 4096 → (m.mirrorWrite xs q).hist j = m.hist j := fun j hj =>
      Memory.read32_congr fun c _ _ => Memory.byte_mirrorWrite_outside m xs q (by omega) (by omega)
    rw [houtside i (.inl rfl), houtside (i + 4096) (.inr rfl), hm i hi]

theorem Memory.imp_mirrorWrite {m : Memory} {q : Nat} {xs : List Word} (hfit : q + xs.length ≤ 4096) (i : Nat) :
    (m.mirrorWrite xs q).imp i = m.imp i := by
  have hb : Region.imp.base = 0x8000 := rfl
  have hh : histHalf = 4096 := rfl
  exact Memory.read32_congr fun c _ _ => Memory.byte_mirrorWrite_outside m xs q (by omega) (by omega)

/-- The cursor after a block stands where the next block begins (R272, R274). -/
theorem nextCursor_aligned {p b : Nat} (hring : 4096 % b = 0) (hp : p % b = 0) (hfit : p + b ≤ 4096) :
    nextCursor p b < 4096 ∧ nextCursor p b % b = 0 ∧ nextCursor p b + b ≤ 4096 := by
  have hh : histHalf = 4096 := rfl
  unfold nextCursor
  split
  · refine ⟨by decide, Nat.zero_mod b, by omega⟩
  · have hnext : (p + b) % b = 0 := by rw [Nat.add_mod_right, hp]
    have hroom : b ∣ 4096 - (p + b) := Nat.dvd_sub (Nat.dvd_of_mod_eq_zero hring) (Nat.dvd_of_mod_eq_zero hnext)
    have := Nat.le_of_dvd (by omega) hroom
    exact ⟨by omega, hnext, by omega⟩

theorem Inv.ingest (hs : Inv s) (hc : s.status.configured = true) (active : s.status.inert = false) {xs : List Word}
    (hxs : xs.length = s.cfgBlock.toNat) : Inv (s.ingest xs) := by
  obtain ⟨hpos, hring, hp, hfit, hmax⟩ := hs.configured hc
  have hh : histHalf = 4096 := rfl
  have hfit' : s.inPos.toNat + xs.length ≤ 4096 := hxs ▸ hfit
  obtain ⟨hnext, haligned, hroom⟩ := nextCursor_aligned hring hp hfit
  have hcursor : (s.ingest xs).inPos.toNat = nextCursor s.inPos.toNat s.cfgBlock.toNat := by
    rw [State.ingest_inPos, BitVec.toNat_ofNat]
    omega
  constructor
  case canonical => exact Memory.wf_mirrorWrite _ xs hs.canonical
  case mirror => exact fun i hi => Memory.mirror_mirrorWrite hfit' hs.mirror hi
  case length => exact hs.length
  case padded => exact hs.padded
  case padding => exact fun i hi hpad => (Memory.imp_mirrorWrite hfit' i).trans (hs.padding i hi hpad)
  case cursor => rwa [hcursor]
  case configured =>
    intro _
    rw [hcursor]
    exact ⟨hpos, hring, haligned, hroom, hmax⟩
  case unconfigured => exact fun h => absurd (hc.symm.trans h) (by decide)
  case inert => exact hs.inert
  case silent => exact fun hinert => absurd (active.symm.trans hinert) Bool.false_ne_true
  case allocFail => exact hs.allocFail
  case window =>
    have hlen := hs.length
    have hpad := hs.padded
    refine .inr ?_
    rw [State.ingest_winStart, State.ingest_winLen, BitVec.toNat_ofNat, BitVec.toNat_ofNat]
    omega

theorem Inv.runBlock (hs : Inv s) (hc : s.status.configured = true) : Inv s.runBlock := by
  cases hi : s.status.inert with
  | true =>
    rw [State.runBlock, if_pos hi]
    exact (EngineKept.writeSilence s).inv hs
  | false =>
    rw [State.runBlock, if_neg (by simp [hi])]
    exact (EngineKept.writeOutput _ _).inv (hs.ingest hc hi (by simp [State.inputBlock]))

theorem Inv.processBlock (hs : Inv s) (hc : s.status.configured = true) : Inv s.processBlock :=
  (EngineKept.setFtz _ _).inv (Inv.runBlock ((EngineKept.setFtz s true).inv hs) hc)

end Operations

/-! ### Commands and steps -/

theorem CommandEffect.inv {s t : State} {i : Instr} (h : CommandEffect s i t) (hs : Inv s) : Inv t := by
  cases h with
  | refused i e => exact (EngineKept.refused s e).inv hs
  | nop | loadimpInert => exact (EngineKept.complete s 0).inv hs
  | config width block maxBlock legal => exact (EngineKept.complete _ _).inv (hs.configure width legal)
  | loadimp explicit id off req chsel x active raised short =>
    have hdiag := (EngineKept.setDiag fun h => raised.allocFail.symm.trans h).inv hs
    exact (EngineKept.complete _ _).inv (hdiag.installImpulse active short)
  | process configured => exact (EngineKept.complete _ _).inv (hs.processBlock configured)
  | clrdiag mask3 => exact (EngineKept.complete _ _).inv ((EngineKept.setDiag Bool.and_elim_left).inv hs)
  | wrfpm z => exact (EngineKept.complete _ _).inv ((EngineKept.setFtz s z).inv hs)
  | register vector vd x => exact (EngineKept.complete _ _).inv ((EngineKept.setReg s vd x).inv hs)
  | store vector x inside => exact (EngineKept.complete _ _).inv ((EngineKept.write128 s x inside).inv hs)

/-- Only CONFIG writes the configuration. -/
theorem CommandEffect.config_kept {s t : State} {i : Instr} (h : CommandEffect s i t) (hop : opcodeOf i ≠ 0x01) :
    ConfigKept s t := by
  cases h with
  | config width block maxBlock => exact absurd (opcodeOf_config width block maxBlock) hop
  | _ => simp [ConfigKept]

theorem CommandEffect.params_kept {s t : State} {i : Instr} (h : CommandEffect s i t) : t.params = s.params := by
  cases h with
  | process => exact processBlock_params s
  | _ => rfl

theorem CommandEffect.inert_kept {s t : State} {i : Instr} (h : CommandEffect s i t) :
    t.status.inert = s.status.inert := by
  cases h <;> simp

/-- What one step does to the part of the state the invariant reads: nothing, a command's effect on it, or reset. -/
inductive StepEffect (s t : State) : Prop
  | kept (h : EngineKept s t)
  | command {u : State} {i : Instr} (served : s.Executes i) (before : EngineKept s u) (effect : CommandEffect u i t)
  | reset (resets : s.Resets) (fresh : EngineKept (State.resetWith s.params s.sources) t)

theorem hostWrite_kept {s t : State} {a : Nat} {x : Word} (h : hostWrite a x s = .next t) : EngineKept s t := by
  cases h
  split
  next ha => exact (EngineKept.write32 s x ha).trans (.answer _ _)
  next => exact .answer s _

theorem step_effect {s t : State} (h : step s = .next t) : StepEffect s t := by
  rcases step_cases h with ⟨-, rfl⟩ | ⟨rest, hinput⟩
  · exact .kept (.refl t)
  have hrest : EngineKept s { s with schedule := rest } := .schedule s rest
  rcases hinput with ⟨port, pkt, -, ht⟩ | ⟨port, -, -, rfl⟩ | ⟨port, pkt, q, i, hserve, hqueue, hdecode, ht⟩ |
    ⟨port, pkt, q, e, -, -, -, ht⟩ | ⟨a, -, ht⟩ | ⟨a, x, -, ht⟩ | ⟨n, -, ht⟩ | ⟨dir, -, ht⟩ | ⟨hreset, ht⟩
  · cases ht
    exact .kept (hrest.trans ((EngineKept.setQueue _ port _).trans (.answer _ _)))
  · exact .kept (hrest.trans (.answer _ _))
  · exact .command ⟨port, rest, pkt, q, hserve, hqueue, hdecode⟩ (hrest.trans (.taking _ port q)) (exec_effect ht)
  · rcases rejectPacket_next ht with rfl | rfl
    · exact .kept (hrest.trans ((EngineKept.taking _ port q).trans (.refused _ _)))
    · exact .kept (hrest.trans ((EngineKept.taking _ port q).trans (.refused _ _)))
  · cases ht
    exact .kept (hrest.trans (.answer _ _))
  · exact .kept (hrest.trans (hostWrite_kept ht))
  · cases ht
    exact .kept (hrest.trans (.answer _ _))
  · cases ht
    exact .kept (hrest.trans ((EngineKept.sources _ dir).trans (.answer _ _)))
  · cases ht
    exact .reset ⟨rest, hreset⟩ { EngineKept.refl (State.resetWith s.params s.sources) with }

/-- Settles O12: a step keeps all the invariant reads, or is a command that starts from such a state, or is reset. -/
theorem everyStepKeepsTheInvariant : Obligations.EveryStepKeepsTheInvariant := by
  intro s t hs h
  cases step_effect h with
  | kept hkept => exact hkept.inv hs
  | command _ before effect => exact effect.inv (before.inv hs)
  | reset _ fresh => exact fresh.inv (inv_resetWith s.params s.sources)

theorem ConfigKept.trans {s t u : State} (h : ConfigKept s t) (h' : ConfigKept t u) : ConfigKept s u := by
  obtain ⟨hblock, hmax, hconfigured, hsimd, hwidth⟩ := h
  obtain ⟨hblock', hmax', hconfigured', hsimd', hwidth'⟩ := h'
  exact ⟨hblock'.trans hblock, hmax'.trans hmax, hconfigured'.trans hconfigured, hsimd'.trans hsimd,
    hwidth'.trans hwidth⟩

theorem StepEffect.params_kept {s t : State} (h : StepEffect s t) : t.params = s.params := by
  cases h with
  | kept hkept => exact hkept.params
  | command _ before effect => exact effect.params_kept.trans before.params
  | reset _ fresh => exact fresh.params

theorem StepEffect.inert_kept {s t : State} (h : StepEffect s t) : t.status.inert = s.status.inert ∨ s.Resets := by
  cases h with
  | kept hkept => exact .inl hkept.inert
  | command _ before effect => exact .inl (effect.inert_kept.trans before.inert)
  | reset resets _ => exact .inr resets

theorem StepEffect.config_kept {s t : State} (h : StepEffect s t) (hreset : ¬ s.Resets)
    (hconfig : ∀ i, s.Executes i → opcodeOf i ≠ 0x01) : ConfigKept s t := by
  cases h with
  | kept hkept => exact hkept.config
  | command served before effect => exact before.config.trans (effect.config_kept (hconfig _ served))
  | reset resets _ => exact absurd resets hreset

/-- Settles O59: the clauses about steps from `step_effect`, the one about commands from `exec_effect`. -/
theorem configurationChangesOnlyByConfigAndReset : Obligations.ConfigurationChangesOnlyByConfigAndReset := by
  constructor
  · intro s t h
    have effect := step_effect h
    exact ⟨effect.params_kept, effect.inert_kept, effect.config_kept⟩
  · intro i s t h hop
    exact (exec_effect h).config_kept hop

end Sys2Proof.Machine
end

section
/-! PROOFS. The local data space and the order of the inputs (20_memory.md): what a step makes of each input of the
ports, and which bytes of memory a command may change. -/

namespace Sys2Proof.Machine

open Sys2Proof.Config

/-! ### Presenting and serving packets (20_memory.md R90, R91) -/

/-- The inputs still to come are no part of a queue. -/
theorem State.queue_schedule (s : State) (rest : List Input) (port : Port) :
    ({ s with schedule := rest } : State).queue port = s.queue port := by
  cases port with
  | c => rfl
  | p => rfl

/-- Taking a packet, field by field. -/
theorem State.taking_eq (s : State) (port : Port) (q : List Packet) : s.taking port q =
    { s with
      queueC := if port = .c then q else s.queueC
      queueP := if port = .p then q else s.queueP
      port := port
      draws := s.draws + 1 } := by
  cases port with
  | c => rfl
  | p => rfl

section Serving

variable {s : State} {port : Port} {rest : List Input}

theorem step_serves {pkt : Packet} {q : List Packet} (h : s.schedule = .serve port :: rest)
    (hq : s.queue port = pkt :: q) :
    step s = execPacket pkt (({ s with schedule := rest } : State).taking port q) :=
  (step_takes h).trans (serve_executes ((s.queue_schedule rest port).trans hq))

theorem step_serves_idle (h : s.schedule = .serve port :: rest) (hq : s.queue port = []) :
    step s = .next (({ s with schedule := rest } : State).answer .none) :=
  (step_takes h).trans (serve_idle ((s.queue_schedule rest port).trans hq))

end Serving

/-- Settles O5: a served packet is executed in the state `taking_eq` writes out, and each other input is one case of the
model. -/
theorem stepRunsDecodedCommand : Obligations.StepRunsDecodedCommand := by
  refine ⟨?_, fun _ _ _ => step_serves_idle, fun _ _ _ => step_takes, fun _ => step_idle⟩
  intro s port rest pkt q h hq served
  have hstep : step s = execPacket pkt served := by
    rw [step_serves h hq, State.taking_eq]
  exact ⟨hstep, fun i hi => hstep.trans (execPacket_ok hi served)⟩

/-- Settles O6: the queue of the presenting port is the one `present` replaces. -/
theorem presentedPacketsWaitInOrder : Obligations.PresentedPacketsWaitInOrder := by
  intro s port pkt rest h
  rw [step_takes h]
  cases port with
  | c => rfl
  | p => rfl

/-! ### The host memory port (20_memory.md R77, R78) -/

theorem hostReadable_iff (a : Nat) : hostReadable a = true ↔ a % 4 = 0 ∧ a < 0x12000 := decide_eq_true_iff

theorem hostWritable_iff (a : Nat) : hostWritable a = true ↔ a % 4 = 0 ∧ 0x0A000 ≤ a ∧ a ≤ 0x11FFF := decide_eq_true_iff

section HostPort

variable {a : Nat}

theorem hostRead_readable (h : hostReadable a = true) (s : State) :
    hostRead a s = .next (s.answer (.data (s.mem.read32 a))) := by
  rw [hostRead, if_pos h]

theorem hostRead_not_readable (h : ¬ hostReadable a = true) (s : State) : hostRead a s = .next (s.answer .portError) := by
  rw [hostRead, if_neg h]

theorem hostWrite_writable (h : hostWritable a = true) (x : Word) (s : State) :
    hostWrite a x s = .next ((s.setMem (s.mem.write32 a x)).answer .written) := by
  rw [hostWrite, if_pos h]

theorem hostWrite_not_writable (h : ¬ hostWritable a = true) (x : Word) (s : State) :
    hostWrite a x s = .next (s.answer .portError) := by
  rw [hostWrite, if_neg h]

end HostPort

/-- Settles O7: the two clauses are the two cases of `hostReadable`. -/
theorem hostReadReturnsTheWord : Obligations.HostReadReturnsTheWord := by
  intro s a rest h
  constructor
  · intro haligned hmapped
    exact (step_takes h).trans (hostRead_readable ((hostReadable_iff _).mpr ⟨haligned, hmapped⟩) _)
  · intro hout
    have hnot : ¬ hostReadable a.toNat = true := by
      rw [hostReadable_iff]
      omega
    exact (step_takes h).trans (hostRead_not_readable hnot _)

/-- Settles O8: the two clauses are the two cases of `hostWritable`; in the first the bytes are those of a 4-byte
write. -/
theorem hostWriteStoresTheWord : Obligations.HostWriteStoresTheWord := by
  intro s a x rest h
  constructor
  · intro haligned hlow hhigh
    have hend : mapEnd = 0x12000 := rfl
    refine ⟨_, (step_takes h).trans (hostWrite_writable ((hostWritable_iff _).mpr ⟨haligned, hlow, hhigh⟩) x _),
      fun j hj => ?_, fun c hc => ?_, rfl⟩
    · exact Memory.byte_write32 s.mem x j hj (by omega)
    · exact Memory.byte_write32_outside s.mem x hc
  · intro hout
    have hnot : ¬ hostWritable a.toNat = true := by
      rw [hostWritable_iff]
      omega
    exact (step_takes h).trans (hostWrite_not_writable hnot x _)

/-! ### The regions an operation changes (20_memory.md R74) -/

/-- Every byte in which `m'` differs from `m` lies in a region of which `p` holds. -/
def Memory.ChangedIn (p : Region → Prop) (m m' : Memory) : Prop :=
  ∀ a, m'.byte a ≠ m.byte a → ∃ r, p r ∧ r.base ≤ a ∧ a ≤ r.last

namespace Memory.ChangedIn

variable {p : Region → Prop} {m m' m'' : Memory}

theorem refl (m : Memory) : ChangedIn p m m := fun _ h => absurd rfl h

theorem trans (h : ChangedIn p m m') (h' : ChangedIn p m' m'') : ChangedIn p m m'' := by
  intro a ha
  by_cases hmid : m''.byte a = m'.byte a
  · exact h a (hmid ▸ ha)
  · exact h' a hmid

/-- A change confined to a range of addresses inside one region. -/
theorem of_range {r : Region} (hr : p r) (lo hi : Nat) (hlo : r.base ≤ lo) (hhi : hi ≤ r.last + 1)
    (h : ∀ c, c < lo ∨ hi ≤ c → m'.byte c = m.byte c) : ChangedIn p m m' := by
  intro a ha
  have hin : ¬ (a < lo ∨ hi ≤ a) := fun hout => ha (h a hout)
  exact ⟨r, hr, by omega, by omega⟩

theorem zeroRegion {r : Region} (hr : p r) (m : Memory) : ChangedIn p m (m.zeroRegion r) :=
  of_range hr r.base (r.last + 1) le_rfl le_rfl fun c hc => by
    rw [Memory.byte_zeroRegion, if_neg (by omega)]

theorem write128 {r : Region} (hr : p r) {a : Nat} (ha : contained a r = true) (m : Memory) (x : Vec) :
    ChangedIn p m (m.write128 a x) := by
  obtain ⟨hbase, hlast⟩ := of_decide_eq_true ha
  exact of_range hr a (a + 16) hbase (by omega) fun c hc => Memory.byte_write128_outside m x hc

theorem writeSamples {r : Region} (hr : p r) {a : Nat} {xs : List Word} (hbase : r.base ≤ a)
    (hlast : a + 4 * xs.length ≤ r.last + 1) (m : Memory) : ChangedIn p m (m.writeSamples a xs) :=
  of_range hr a (a + 4 * xs.length) hbase hlast fun _ hc => Memory.byte_writeSamples_outside m xs hc

theorem writeSamples64 {r : Region} (hr : p r) {a : Nat} {xs : List Dword} (hbase : r.base ≤ a)
    (hlast : a + 8 * xs.length ≤ r.last + 1) (m : Memory) : ChangedIn p m (m.writeSamples64 a xs) :=
  of_range hr a (a + 8 * xs.length) hbase hlast fun _ hc => Memory.byte_writeSamples64_outside m xs hc

/-- Both copies of a block inside one half of the ring lie in HIST (45_history_ring.md R271). -/
theorem mirrorWrite (hp : p .hist) {q : Nat} {xs : List Word} (hfit : q + xs.length ≤ 4096) (m : Memory) :
    ChangedIn p m (m.mirrorWrite xs q) := by
  have hh : histHalf = 4096 := rfl
  exact of_range hp 0 0x8000 le_rfl le_rfl fun c hc => Memory.byte_mirrorWrite_outside m xs q (by omega) (by omega)

/-- The longest impulse, padded, fills IMP (44_impulse_loader.md R256). -/
theorem installImpulse (hp : p .imp) {xs : List Word} (short : xs.length ≤ impMaxLen) (m : Memory) :
    ChangedIn p m (m.installImpulse xs) := by
  have hb : Region.imp.base = 0x8000 := rfl
  have he : Region.imp.last = 0x9FFF := rfl
  have hmax : impMaxLen = 2044 := rfl
  have hpad := paddedLength_eq xs.length
  exact (zeroRegion hp m).trans (writeSamples hp (by omega) (by omega) _)

end Memory.ChangedIn

section Block

variable {p : Region → Prop} {s : State}

/-- OUTB holds a block of at most 2048 samples in either width (47_perform_dispatch.md R327). -/
theorem writeOutput_changedIn (hp : p .outb) {ys : List Word} (hlen : ys.length ≤ 2048) (s : State) :
    Memory.ChangedIn p s.mem (s.writeOutput ys).mem := by
  have hb : Region.outb.base = 0xE000 := rfl
  have he : Region.outb.last = 0x11FFF := rfl
  unfold State.writeOutput
  split
  · exact .writeSamples hp le_rfl (by omega) s.mem
  · exact .writeSamples64 hp le_rfl (by rw [List.length_mapIdx]; omega) s.mem

theorem writeSilence_changedIn (hp : p .outb) (hblock : s.cfgBlock.toNat ≤ 2048) :
    Memory.ChangedIn p s.mem s.writeSilence.mem := by
  have hb : Region.outb.base = 0xE000 := rfl
  have he : Region.outb.last = 0x11FFF := rfl
  unfold State.writeSilence
  split
  · exact .writeSamples hp le_rfl (by rw [List.length_replicate]; omega) s.mem
  · exact .writeSamples64 hp le_rfl (by rw [List.length_replicate]; omega) s.mem

/-- The invariant keeps the block inside one half of the ring and inside OUTB. -/
theorem Inv.runBlock_changedIn (hs : Inv s) (hc : s.status.configured = true) (hhist : p .hist) (houtb : p .outb) :
    Memory.ChangedIn p s.mem s.runBlock.mem := by
  obtain ⟨-, -, -, hfit, hmax, -, hcap, -⟩ := hs.configured hc
  cases hi : s.status.inert with
  | true =>
    rw [State.runBlock, if_pos hi]
    exact writeSilence_changedIn houtb (by omega)
  | false =>
    have hinput : s.inputBlock.length = s.cfgBlock.toNat := by simp [State.inputBlock]
    have houtput (t : State) (q : Nat) : (t.kernelBlock q).length = t.cfgBlock.toNat := by simp [State.kernelBlock]
    rw [State.runBlock, if_neg (by simp [hi])]
    refine .trans (.mirrorWrite hhist (q := s.inPos.toNat) (xs := s.inputBlock) (by omega) s.mem) ?_
    exact writeOutput_changedIn houtb (by rw [houtput, State.ingest_cfgBlock]; omega) (s.ingest s.inputBlock)

theorem Inv.processBlock_changedIn (hs : Inv s) (hc : s.status.configured = true) (hhist : p .hist)
    (houtb : p .outb) : Memory.ChangedIn p s.mem s.processBlock.mem :=
  Inv.runBlock_changedIn ((EngineKept.setFtz s true).inv hs) hc hhist houtb

end Block

/-! ### The regions a command may write (20_memory.md R75; 60_exceptions.md R371) -/

/-- The opcodes that write a region: CONFIG and PROCESS HIST, LOADIMP IMP, the stores INB, PROCESS and the stores
OUTB. -/
def MayWrite (op : Nat) : Region → Prop
  | .hist => op = 0x01 ∨ op = 0x03
  | .imp => op = 0x02
  | .inb => op = 0x23
  | .outb => op = 0x03 ∨ op = 0x23

section Commands

variable {s t : State} {i : Instr}

theorem writesReg_mem {vd : VReg} {x : Vec} (h : writesReg s vd x = .next t) : t.mem = s.mem := by
  rcases writesReg_next h with ⟨-, -, rfl⟩ | ⟨-, rfl⟩ | ⟨-, -, rfl⟩
  · rfl
  · rfl
  · rfl

theorem loadVec_mem {vd : VReg} {a : Nat} (h : loadVec vd a s = .next t) : t.mem = s.mem := by
  rcases loadVec_next h with ⟨-, -, ⟨-, rfl⟩ | ⟨-, rfl⟩⟩ | ⟨-, rfl⟩ | ⟨-, -, rfl⟩
  · rfl
  · rfl
  · rfl
  · rfl

theorem shuffleCommand64_mem {vd va vb : VReg} {imm8 : BitVec 8} (h : shuffleCommand64 vd va vb imm8 s = .next t) :
    t.mem = s.mem := by
  rcases shuffleCommand64_next h with ⟨-, -, -, rfl⟩ | ⟨-, rfl⟩ | ⟨-, -, rfl⟩ | ⟨-, -, -, rfl⟩
  · rfl
  · rfl
  · rfl
  · rfl

/-- Of the VectorOps commands only the stores, opcode 0x23, write memory (40_vec_arith.md R150 (h)). -/
theorem vector_mem_of_not_store (hi : ¬ EngineCommand i) (hop : opcodeOf i ≠ 0x23) (h : exec i s = .next t) :
    t.mem = s.mem := by
  cases i with
  | nop | config | loadimp | process | clrdiag | wrfpm => exact absurd (by constructor) hi
  | vstuF32 | vstuF64 | vstuI32 | vstuI64 =>
    exact absurd
      (opcodeOf_of_word0 rfl ⟨by decide, ElemType.code_lt _, by omega, by omega, by omega, by omega⟩) hop
  | vlduF32 | vlduF64 | vlduI32 | vlduI64 => exact loadVec_mem h
  | vshufF64 | vshufI64 => exact shuffleCommand64_mem h
  | _ => exact writesReg_mem h

theorem changedIn_of_storable {p : Region → Prop} (hinb : p .inb) (houtb : p .outb) {a : Nat}
    (inside : storable a = true) (m : Memory) (x : Vec) : Memory.ChangedIn p m (m.write128 a x) := by
  rcases Bool.or_eq_true_iff.mp inside with ha | ha
  · exact .write128 hinb ha m x
  · exact .write128 houtb ha m x

theorem configure_changedIn {p : Region → Prop} (hhist : p .hist) (s : State) (width : SampleWidth)
    (block maxBlock : BitVec 16) : Memory.ChangedIn p s.mem (s.configure width block maxBlock).mem := by
  rw [State.configure_mem]
  split
  · exact .refl s.mem
  · exact .zeroRegion hhist s.mem

/-- A command changes bytes of the regions its opcode may write, and no others. -/
theorem exec_changedIn (hs : Inv s) (h : exec i s = .next t) :
    Memory.ChangedIn (MayWrite (opcodeOf i)) s.mem t.mem := by
  cases exec_effect h with
  | config width block maxBlock =>
    exact configure_changedIn (.inl (opcodeOf_config width block maxBlock)) s width block maxBlock
  | loadimp explicit id off req chsel x active raised short =>
    exact .installImpulse (opcodeOf_loadimp explicit id off req chsel) short s.mem
  | process configured => exact hs.processBlock_changedIn configured (.inr (by decide)) (.inl (by decide))
  | store vector x inside =>
    by_cases hop : opcodeOf i = 0x23
    · exact changedIn_of_storable hop (.inr hop) inside s.mem x
    · rw [vector_mem_of_not_store vector hop h]
      exact .refl s.mem
  | _ => exact .refl s.mem

end Commands

/-- Settles O56: the changed byte lies in a region the command may write. -/
theorem onlyTheirCommandsWriteTheRegions : Obligations.OnlyTheirCommandsWriteTheRegions := by
  intro i s t a hs h hchanged
  obtain ⟨r, hwrite, hbase, hlast⟩ := exec_changedIn hs h a hchanged
  cases r with
  | hist => exact .inl ⟨Nat.lt_succ_of_le hlast, hwrite⟩
  | imp => exact .inr (.inl ⟨hbase, Nat.lt_succ_of_le hlast, hwrite⟩)
  | inb => exact .inr (.inr (.inl ⟨hbase, Nat.lt_succ_of_le hlast, hwrite⟩))
  | outb => exact .inr (.inr (.inr ⟨hbase, Nat.lt_succ_of_le hlast, hwrite⟩))

end Sys2Proof.Machine
end

section
/-! PROOFS. Decoding and encoding are inverse to each other between the packets that decode and the well-formed commands
(30_encoding.md R113 to R126): when each format answers a command, what it reads from the packet built for that command,
which `word0` its fields leave possible, and from these the two round trips over the opcode map. -/

namespace Sys2Proof

/-! ### When a format answers a command -/

section Formats

variable {w : Word} {ops : Packet} {i j : Instr}

theorem whenZero_eq_ok {reserved : Bool} : whenZero reserved i = .ok j ↔ reserved = true ∧ i = j := by
  cases reserved <;> simp [whenZero]

theorem formatN_eq_ok : formatN w ops i = .ok j ↔ field w 23 0 = 0 ∧ ops = [] ∧ i = j := by
  cases ops <;> simp [formatN, whenZero_eq_ok]

theorem formatC_eq_ok : formatC w ops = .ok i ↔ field w 23 1 = 0 ∧ ∃ w1, ops = [w1] ∧
    .config (if field w 0 0 = 0 then .native else .hostDouble) (w1.extractLsb' 0 16) (w1.extractLsb' 16 16) = i := by
  unfold formatC
  split <;> simp_all [whenZero_eq_ok]

theorem formatL_eq_ok : formatL w ops = .ok i ↔ field w 23 1 = 0 ∧ ∃ w1 w2 w3 w4, ops = [w1, w2, w3, w4] ∧
    .loadimp (field w 0 0 == 1) w1 w2 w3 w4 = i := by
  unfold formatL
  split <;> simp_all [whenZero_eq_ok]

theorem formatD_eq_ok : formatD w ops = .ok i ↔ field w 23 3 = 0 ∧ ops = [] ∧ .clrdiag (w.extractLsb' 0 3) = i := by
  cases ops <;> simp [formatD, whenZero_eq_ok]

theorem formatF_eq_ok : formatF w ops = .ok i ↔ field w 23 1 = 0 ∧ ops = [] ∧ .wrfpm (field w 0 0 == 1) = i := by
  cases ops <;> simp [formatF, whenZero_eq_ok]

theorem formatR_eq_ok {row : ElemType → Option (VReg → VReg → VReg → Instr)} : formatR w ops row = .ok i ↔
    field w 21 20 = 0 ∧ field w 7 0 = 0 ∧ ops = [] ∧ ∃ mk, row (elemType w) = some mk ∧
      mk (regField w 16) (regField w 12) (regField w 8) = i := by
  cases hrow : row (elemType w) <;> cases ops <;> simp [formatR, hrow, whenZero_eq_ok, and_assoc]

theorem formatR4_eq_ok {row : ElemType → Option (VReg → VReg → VReg → VReg → Instr)} : formatR4 w ops row = .ok i ↔
    field w 21 20 = 0 ∧ field w 3 0 = 0 ∧ ops = [] ∧ ∃ mk, row (elemType w) = some mk ∧
      mk (regField w 16) (regField w 12) (regField w 8) (regField w 4) = i := by
  cases hrow : row (elemType w) <;> cases ops <;> simp [formatR4, hrow, whenZero_eq_ok, and_assoc]

theorem formatI_eq_ok {row : ElemType → Option (VReg → VReg → VReg → BitVec 8 → Instr)} : formatI w ops row = .ok i ↔
    field w 21 20 = 0 ∧ (field w 23 22 % 2 = 0 ∨ field w 7 2 = 0) ∧ ops = [] ∧ ∃ mk, row (elemType w) = some mk ∧
      mk (regField w 16) (regField w 12) (regField w 8) (w.extractLsb' 0 8) = i := by
  cases hrow : row (elemType w) <;> cases ops <;> simp [formatI, hrow, whenZero_eq_ok, and_assoc]

theorem formatU_eq_ok {row : ElemType → Option (VReg → VReg → Instr)} : formatU w ops row = .ok i ↔
    field w 21 20 = 0 ∧ field w 11 0 = 0 ∧ ops = [] ∧ ∃ mk, row (elemType w) = some mk ∧
      mk (regField w 16) (regField w 12) = i := by
  cases hrow : row (elemType w) <;> cases ops <;> simp [formatU, hrow, whenZero_eq_ok, and_assoc]

theorem formatM_eq_ok {row : ElemType → Option (VReg → Word → Instr)} : formatM w ops row = .ok i ↔
    field w 21 20 = 0 ∧ field w 15 0 = 0 ∧ ∃ addr, ops = [addr] ∧ ∃ mk, row (elemType w) = some mk ∧
      mk (regField w 16) addr = i := by
  cases hrow : row (elemType w) <;> rcases ops with _ | ⟨addr, _ | _⟩ <;>
    simp [formatM, hrow, whenZero_eq_ok, and_assoc]

/-- The operand words of a broadcast: a 64-bit scalar has its low word first (30_encoding.md R119). -/
inductive ScalarWords : ElemType → VReg → Packet → Instr → Prop
  | f32 (vd : VReg) (s : Word) : ScalarWords .f32 vd [s] (.vbcastF32 vd s)
  | f64 (vd : VReg) (s : Dword) : ScalarWords .f64 vd [s.extractLsb' 0 32, s.extractLsb' 32 32] (.vbcastF64 vd s)
  | i32 (vd : VReg) (s : Word) : ScalarWords .i32 vd [s] (.vbcastI32 vd s)
  | i64 (vd : VReg) (s : Dword) : ScalarWords .i64 vd [s.extractLsb' 0 32, s.extractLsb' 32 32] (.vbcastI64 vd s)

/-- A doubleword put together from its two words has them as its halves. -/
theorem words_of_append (lo hi : Word) : [(hi ++ lo).extractLsb' 0 32, (hi ++ lo).extractLsb' 32 32] = [lo, hi] := by
  rw [BitVec.extractLsb'_append_eq_right, BitVec.extractLsb'_append_eq_left]

theorem formatB_eq_ok : formatB w ops = .ok i ↔
    field w 21 20 = 0 ∧ field w 15 0 = 0 ∧ ScalarWords (elemType w) (regField w 16) ops i := by
  constructor
  · intro h
    simp only [formatB] at h
    split at h
    case h_5 => cases h
    all_goals
      rename_i ht
      obtain ⟨hzero, rfl⟩ := whenZero_eq_ok.mp h
      obtain ⟨hz, hlow⟩ : field w 21 20 = 0 ∧ field w 15 0 = 0 := by simpa using hzero
      rw [ht]
      refine ⟨hz, hlow, ?_⟩
    · exact .f32 _ _
    · rw [← words_of_append]
      exact .f64 _ _
    · exact .i32 _ _
    · rw [← words_of_append]
      exact .i64 _ _
  · rintro ⟨hz, hlow, h⟩
    generalize ht : elemType w = t at h
    generalize hvd : regField w 16 = vd at h
    cases h <;> simp [formatB, ht, hvd, hz, hlow, whenZero_eq_ok,
      BitVec.extractLsb'_append_extractLsb' (w := 32) (len := 32)]

end Formats

/-! ### Reading the packet built for a command -/

section Reading

variable {op et vd va vb low8 : Nat}

/-- A packet is read by the format the opcode map has for its opcode. -/
theorem decode_word0 {format : Word → Packet → Decoded} (fit : FieldsFit op et vd va vb low8)
    (hmap : ∀ w ops, decodeOp op w ops = format w ops) (ops : Packet) :
    decode (word0 op et vd va vb low8 :: ops) = format (word0 op et vd va vb low8) ops := by
  rw [decode, word0_op fit, hmap]

theorem regField_word0_vd {vd : VReg} (fit : FieldsFit op et vd va vb low8) :
    regField (word0 op et vd va vb low8) 16 = vd :=
  Fin.ext (word0_vd fit)

theorem regField_word0_va {va : VReg} (fit : FieldsFit op et vd va vb low8) :
    regField (word0 op et vd va vb low8) 12 = va :=
  Fin.ext (word0_va fit)

theorem regField_word0_vb {vb : VReg} (fit : FieldsFit op et vd va vb low8) :
    regField (word0 op et vd va vb low8) 8 = vb :=
  Fin.ext (word0_vb fit)

theorem regField_word0_vm {vm : VReg} (fit : FieldsFit op et vd va vb (vm.val * 2 ^ 4)) :
    regField (word0 op et vd va vb (vm.val * 2 ^ 4)) 4 = vm := by
  refine Fin.ext ?_
  rw [regField, word0_toNat fit, Fin.val_ofNat]
  omega

theorem word0_low4 (fit : FieldsFit op et vd va vb low8) : field (word0 op et vd va vb low8) 3 0 = low8 % 2 ^ 4 := by
  rw [field, word0_toNat fit]
  omega

theorem word0_selectorHigh (fit : FieldsFit op et vd va vb low8) :
    field (word0 op et vd va vb low8) 7 2 = low8 / 2 ^ 2 := by
  have := fit.low8
  rw [field, word0_toNat fit]
  omega

theorem word0_low12 (fit : FieldsFit op et vd va 0 low8) : field (word0 op et vd va 0 low8) 11 0 = low8 := by
  have := fit.low8
  rw [field, word0_toNat fit]
  omega

theorem word0_low16 (fit : FieldsFit op et vd 0 0 low8) : field (word0 op et vd 0 0 low8) 15 0 = low8 := by
  have := fit.low8
  rw [field, word0_toNat fit]
  omega

/-- The lowest bits of `word0` are those of its low byte. -/
theorem extractLsb'_word0 {n : Nat} (hn : n ≤ 8) {x : BitVec n} (fit : FieldsFit op et vd va vb x.toNat) :
    (word0 op et vd va vb x.toNat).extractLsb' 0 n = x := by
  have hdvd : 2 ^ n ∣ 2 ^ 8 := Nat.pow_dvd_pow 2 hn
  have hbyte : (word0 op et vd va vb x.toNat).toNat % 2 ^ 8 = x.toNat := by
    have := fit.low8
    rw [word0_toNat fit]
    omega
  refine BitVec.eq_of_toNat_eq ?_
  rw [BitVec.extractLsb'_toNat, Nat.shiftRight_zero, ← Nat.mod_mod_of_dvd _ hdvd, hbyte, Nat.mod_eq_of_lt x.isLt]

/-- The `word0` of an engine command has no element type and no registers (30_encoding.md R113, R120 to R123). -/
theorem fieldsFit_engine (hop : op < 256) (hlow : low8 < 256) : FieldsFit op 0 0 0 0 low8 :=
  ⟨hop, by decide, by decide, by decide, by decide, hlow⟩

theorem field_to_23 (w : Word) {lo : Nat} (hlo : lo ≤ 8) : field w 23 lo = w.toNat % 2 ^ 24 / 2 ^ lo := by
  rw [field, ← Nat.mod_mul_right_div_self, ← pow_add, show lo + (23 - lo + 1) = 24 by omega]

theorem word0_engine_high_zero {lo : Nat} (hlo : lo ≤ 8) (fit : FieldsFit op 0 0 0 0 low8) (hlow : low8 < 2 ^ lo) :
    field (word0 op 0 0 0 0 low8) 23 lo = 0 := by
  have h24 : (word0 op 0 0 0 0 low8).toNat % 2 ^ 24 = low8 := by
    have := fit.low8
    rw [word0_toNat fit]
    omega
  rw [field_to_23 _ hlo, h24, Nat.div_eq_of_lt hlow]

theorem word0_bit0 (fit : FieldsFit op et vd va vb low8) : field (word0 op et vd va vb low8) 0 0 = low8 % 2 := by
  rw [field, word0_toNat fit]
  omega

end Reading

/-! ### Each format reads back the packet built for its command -/

section FormatOfWords

variable {op : Nat} {t : ElemType}

theorem decode_wordsR {row : ElemType → Option (VReg → VReg → VReg → Instr)} {mk : VReg → VReg → VReg → Instr}
    (hop : op < 256) (hmap : ∀ w ops, decodeOp op w ops = formatR w ops row) (hrow : row t = some mk)
    (vd va vb : VReg) : decode (wordsR op t vd va vb) = .ok (mk vd va vb) := by
  have fit := fieldsFit_regs t vd va vb hop (low8 := 0) (by decide)
  rw [wordsR, decode_word0 fit hmap, formatR_eq_ok, word0_elemType t fit, regField_word0_vd fit,
    regField_word0_va fit, regField_word0_vb fit]
  exact ⟨word0_z1 fit, word0_low8 fit, rfl, mk, hrow, rfl⟩

theorem decode_wordsR4 {row : ElemType → Option (VReg → VReg → VReg → VReg → Instr)}
    {mk : VReg → VReg → VReg → VReg → Instr} (hop : op < 256)
    (hmap : ∀ w ops, decodeOp op w ops = formatR4 w ops row) (hrow : row t = some mk) (vd va vb vm : VReg) :
    decode (wordsR4 op t vd va vb vm) = .ok (mk vd va vb vm) := by
  have fit := fieldsFit_regs t vd va vb hop (low8 := vm.val * 2 ^ 4) (by omega)
  rw [wordsR4, decode_word0 fit hmap, formatR4_eq_ok, word0_elemType t fit, regField_word0_vd fit,
    regField_word0_va fit, regField_word0_vb fit, regField_word0_vm fit, word0_low4 fit]
  exact ⟨word0_z1 fit, Nat.mul_mod_left _ _, rfl, mk, hrow, rfl⟩

/-- The selector of a shuffle fits its lanes: the 64-bit one has two bits (30_encoding.md R116). -/
def SelectorFits (t : ElemType) (imm8 : BitVec 8) : Prop := t.code % 2 = 0 ∨ imm8.toNat < 4

theorem decode_wordsI {row : ElemType → Option (VReg → VReg → VReg → BitVec 8 → Instr)}
    {mk : VReg → VReg → VReg → BitVec 8 → Instr} (hop : op < 256)
    (hmap : ∀ w ops, decodeOp op w ops = formatI w ops row) (hrow : row t = some mk) (vd va vb : VReg)
    {imm8 : BitVec 8} (himm : SelectorFits t imm8) :
    decode (wordsI op t vd va vb imm8) = .ok (mk vd va vb imm8) := by
  have fit := fieldsFit_regs t vd va vb hop (low8 := imm8.toNat) imm8.isLt
  rw [wordsI, decode_word0 fit hmap, formatI_eq_ok, word0_elemType t fit, regField_word0_vd fit,
    regField_word0_va fit, regField_word0_vb fit, word0_et fit, word0_selectorHigh fit,
    extractLsb'_word0 (by decide) fit]
  exact ⟨word0_z1 fit, himm.imp_right Nat.div_eq_of_lt, rfl, mk, hrow, rfl⟩

theorem decode_wordsU {row : ElemType → Option (VReg → VReg → Instr)} {mk : VReg → VReg → Instr}
    (hop : op < 256) (hmap : ∀ w ops, decodeOp op w ops = formatU w ops row) (hrow : row t = some mk)
    (vd va : VReg) : decode (wordsU op t vd va) = .ok (mk vd va) := by
  have fit : FieldsFit op t.code vd va 0 0 := fieldsFit_regs t vd va 0 hop (by decide)
  rw [wordsU, decode_word0 fit hmap, formatU_eq_ok, word0_elemType t fit, regField_word0_vd fit,
    regField_word0_va fit]
  exact ⟨word0_z1 fit, word0_low12 fit, rfl, mk, hrow, rfl⟩

theorem decode_wordsM {row : ElemType → Option (VReg → Word → Instr)} {mk : VReg → Word → Instr}
    (hop : op < 256) (hmap : ∀ w ops, decodeOp op w ops = formatM w ops row) (hrow : row t = some mk)
    (vd : VReg) (addr : Word) : decode (wordsM op t vd addr) = .ok (mk vd addr) := by
  have fit : FieldsFit op t.code vd 0 0 0 := fieldsFit_regs t vd 0 0 hop (by decide)
  rw [wordsM, decode_word0 fit hmap, formatM_eq_ok, word0_elemType t fit, regField_word0_vd fit]
  exact ⟨word0_z1 fit, word0_low16 fit, addr, rfl, mk, hrow, rfl⟩

theorem decode_scalarWords {vd : VReg} {ops : Packet} {i : Instr} (h : ScalarWords t vd ops i) :
    decode (word0 0x10 t.code vd 0 0 0 :: ops) = .ok i := by
  have fit : FieldsFit 0x10 t.code vd 0 0 0 := fieldsFit_regs t vd 0 0 (by decide) (by decide)
  rw [decode_word0 (format := formatB) fit fun _ _ => rfl]
  refine formatB_eq_ok.mpr ⟨word0_z1 fit, word0_low16 fit, ?_⟩
  rwa [word0_elemType t fit, regField_word0_vd fit]

theorem decode_wordN {i : Instr} (hop : op < 256) (hmap : ∀ w ops, decodeOp op w ops = formatN w ops i) :
    decode [word0 op 0 0 0 0 0] = .ok i := by
  have fit : FieldsFit op 0 0 0 0 0 := fieldsFit_engine hop (by decide)
  rw [decode_word0 fit hmap]
  exact formatN_eq_ok.mpr ⟨word0_engine_high_zero (by decide) fit (by decide), rfl, rfl⟩

theorem decode_encode_config (width : SampleWidth) (block maxBlock : BitVec 16) :
    decode (encode (.config width block maxBlock)) = .ok (.config width block maxBlock) := by
  have hlow : (if width = .native then 0 else 1) < 2 ^ 1 := by split <;> decide
  have fit := fieldsFit_engine (op := 0x01) (by decide) (hlow.trans (by decide))
  refine (decode_word0 (format := formatC) fit (fun _ _ => rfl) _).trans
    (formatC_eq_ok.mpr ⟨word0_engine_high_zero (by decide) fit hlow, _, rfl, ?_⟩)
  rw [word0_bit0 fit, BitVec.extractLsb'_append_eq_right, BitVec.extractLsb'_append_eq_left]
  cases width <;> rfl

theorem decode_encode_loadimp (explicit : Bool) (id off req chsel : Word) :
    decode (encode (.loadimp explicit id off req chsel)) = .ok (.loadimp explicit id off req chsel) := by
  have hlow : (if explicit then 1 else 0) < 2 ^ 1 := by split <;> decide
  have fit := fieldsFit_engine (op := 0x02) (by decide) (hlow.trans (by decide))
  refine (decode_word0 (format := formatL) fit (fun _ _ => rfl) _).trans
    (formatL_eq_ok.mpr ⟨word0_engine_high_zero (by decide) fit hlow, _, _, _, _, rfl, ?_⟩)
  rw [word0_bit0 fit]
  cases explicit <;> rfl

theorem decode_encode_clrdiag (mask3 : BitVec 3) : decode (encode (.clrdiag mask3)) = .ok (.clrdiag mask3) := by
  have fit := fieldsFit_engine (op := 0x04) (low8 := mask3.toNat) (by decide) (by omega)
  refine (decode_word0 (format := formatD) fit (fun _ _ => rfl) _).trans
    (formatD_eq_ok.mpr ⟨word0_engine_high_zero (by decide) fit mask3.isLt, rfl, ?_⟩)
  rw [extractLsb'_word0 (by decide) fit]

theorem decode_encode_wrfpm (ftz : Bool) : decode (encode (.wrfpm ftz)) = .ok (.wrfpm ftz) := by
  have hlow : (if ftz then 1 else 0) < 2 ^ 1 := by split <;> decide
  have fit := fieldsFit_engine (op := 0x05) (by decide) (hlow.trans (by decide))
  refine (decode_word0 (format := formatF) fit (fun _ _ => rfl) _).trans
    (formatF_eq_ok.mpr ⟨word0_engine_high_zero (by decide) fit hlow, rfl, ?_⟩)
  rw [word0_bit0 fit]
  cases ftz <;> rfl

end FormatOfWords

/-- Settles O1: each command by the lemma of its format. -/
theorem decodeOfEncode : Obligations.DecodeOfEncode := by
  intro i hwf
  cases i with
  | nop | process => exact decode_wordN (by decide) fun _ _ => rfl
  | config width block maxBlock => exact decode_encode_config width block maxBlock
  | loadimp explicit id off req chsel => exact decode_encode_loadimp explicit id off req chsel
  | clrdiag mask3 => exact decode_encode_clrdiag mask3
  | wrfpm ftz => exact decode_encode_wrfpm ftz
  | vbcastF32 vd s | vbcastF64 vd s | vbcastI32 vd s | vbcastI64 vd s => exact decode_scalarWords (by constructor)
  | vselF32 vd va vb vm | vselF64 vd va vb vm | vselI32 vd va vb vm | vselI64 vd va vb vm =>
    exact decode_wordsR4 (by decide) (fun _ _ => rfl) rfl vd va vb vm
  | vlduF32 vd addr | vlduF64 vd addr | vlduI32 vd addr | vlduI64 vd addr
  | vstuF32 vd addr | vstuF64 vd addr | vstuI32 vd addr | vstuI64 vd addr =>
    exact decode_wordsM (by decide) (fun _ _ => rfl) rfl vd addr
  | vshufF32 vd va vb imm8 | vshufI32 vd va vb imm8 =>
    exact decode_wordsI (by decide) (fun _ _ => rfl) rfl vd va vb (.inl rfl)
  | vshufF64 vd va vb imm8 | vshufI64 vd va vb imm8 =>
    exact decode_wordsI (by decide) (fun _ _ => rfl) rfl vd va vb (.inr (of_decide_eq_true hwf))
  | vcvtF32I32 vd va | vcvttI32F32 vd va | vcvtrI32F32 vd va | vcvtF64I64 vd va
  | vcvttI64F64 vd va | vcvtrI64F64 vd va | vcvtF32F64 vd va | vcvtF64F32 vd va =>
    exact decode_wordsU (by decide) (fun _ _ => rfl) rfl vd va
  | _ vd va vb => exact decode_wordsR (by decide) (fun _ _ => rfl) rfl vd va vb

/-! ### The `word0` with given fields and reserved bits zero -/

section Rebuilding

variable {w : Word} {op low8 : Nat}

theorem code_elemType (w : Word) : (elemType w).code = field w 23 22 := by
  have hlt : field w 23 22 < 4 := Nat.mod_lt _ (by decide)
  unfold elemType
  split_ifs <;> simp only [ElemType.code] <;> omega

/-- A word with bits 21:20 zero is put together from its opcode, element type, registers and low byte. -/
theorem word0_of_fields (hop : field w 31 24 = op) (hz : field w 21 20 = 0) (hlow : field w 7 0 = low8) :
    word0 op (elemType w).code (regField w 16).val (regField w 12).val (regField w 8).val low8 = w := by
  rw [code_elemType]
  refine BitVec.eq_of_toNat_eq ?_
  simp only [word0, BitVec.toNat_ofNat, regField, Fin.val_ofNat, field] at *
  omega

theorem word0_of_low12_zero (hop : field w 31 24 = op) (hz : field w 21 20 = 0) (hlow : field w 11 0 = 0) :
    word0 op (elemType w).code (regField w 16).val (regField w 12).val 0 0 = w := by
  have hlow8 : field w 7 0 = 0 := by unfold field at *; omega
  have hvb : (regField w 8).val = 0 := by simp only [regField, Fin.val_ofNat, field] at *; omega
  have hw := word0_of_fields hop hz hlow8
  rwa [hvb] at hw

theorem word0_of_low16_zero (hop : field w 31 24 = op) (hz : field w 21 20 = 0) (hlow : field w 15 0 = 0) :
    word0 op (elemType w).code (regField w 16).val 0 0 0 = w := by
  have hlow12 : field w 11 0 = 0 := by unfold field at *; omega
  have hva : (regField w 12).val = 0 := by simp only [regField, Fin.val_ofNat, field] at *; omega
  have hw := word0_of_low12_zero hop hz hlow12
  rwa [hva] at hw

/-- A word with bits 23 to `lo` zero is an engine command's, put together from its opcode and the bits below `lo`. -/
theorem word0_of_high_zero {lo : Nat} (hlo : lo ≤ 8) (hop : field w 31 24 = op) (hhigh : field w 23 lo = 0) :
    word0 op 0 0 0 0 (w.toNat % 2 ^ lo) = w := by
  have hdvd : 2 ^ lo ∣ 2 ^ 24 := Nat.pow_dvd_pow 2 (by omega)
  have hlt : w.toNat % 2 ^ 24 < 2 ^ lo := by
    rw [field_to_23 w hlo] at hhigh
    exact Nat.lt_of_div_eq_zero (by positivity) hhigh
  rw [← Nat.mod_mod_of_dvd _ hdvd, Nat.mod_eq_of_lt hlt]
  refine BitVec.eq_of_toNat_eq ?_
  simp only [word0, BitVec.toNat_ofNat, field] at *
  omega

end Rebuilding

/-! ### A packet a format answers for is the packet of its command -/

/-- The packet is the command's own, and the command is well formed. -/
def IsPacketOf (pkt : Packet) (i : Instr) : Prop := encode i = pkt ∧ i.wellFormed = true

section Rows

variable {α : Type} {P : ElemType → α → Prop} {f32 f64 i32 i64 : α}

theorem forall_allTypes (hf32 : P .f32 f32) (hf64 : P .f64 f64) (hi32 : P .i32 i32) (hi64 : P .i64 i64) :
    ∀ t x, allTypes f32 f64 i32 i64 t = some x → P t x
  | .f32, _, rfl => hf32
  | .f64, _, rfl => hf64
  | .i32, _, rfl => hi32
  | .i64, _, rfl => hi64

theorem forall_floatTypes (hf32 : P .f32 f32) (hf64 : P .f64 f64) : ∀ t x, floatTypes f32 f64 t = some x → P t x
  | .f32, _, rfl => hf32
  | .f64, _, rfl => hf64

theorem forall_onlyType {t : ElemType} {x : α} (h : P t x) : ∀ u y, onlyType t x u = some y → P u y := by
  intro u y hy
  obtain ⟨rfl, rfl⟩ : u = t ∧ x = y := by simpa [onlyType] using hy
  exact h

end Rows

section PacketOfFormat

variable {w : Word} {ops : Packet} {i j : Instr} {op : Nat}

theorem packetOf_formatR {row : ElemType → Option (VReg → VReg → VReg → Instr)} (hop : field w 31 24 = op)
    (h : formatR w ops row = .ok i)
    (hrow : ∀ t mk, row t = some mk → ∀ vd va vb, IsPacketOf (wordsR op t vd va vb) (mk vd va vb)) :
    IsPacketOf (w :: ops) i := by
  obtain ⟨hz, hlow, rfl, mk, hmk, rfl⟩ := formatR_eq_ok.mp h
  have hpkt := hrow _ mk hmk (regField w 16) (regField w 12) (regField w 8)
  rwa [wordsR, word0_of_fields hop hz hlow] at hpkt

theorem packetOf_formatR4 {row : ElemType → Option (VReg → VReg → VReg → VReg → Instr)} (hop : field w 31 24 = op)
    (h : formatR4 w ops row = .ok i)
    (hrow : ∀ t mk, row t = some mk → ∀ vd va vb vm, IsPacketOf (wordsR4 op t vd va vb vm) (mk vd va vb vm)) :
    IsPacketOf (w :: ops) i := by
  obtain ⟨hz, hlow, rfl, mk, hmk, rfl⟩ := formatR4_eq_ok.mp h
  have hvm : field w 7 0 = (regField w 4).val * 2 ^ 4 := by
    simp only [regField, Fin.val_ofNat, field] at *
    omega
  have hpkt := hrow _ mk hmk (regField w 16) (regField w 12) (regField w 8) (regField w 4)
  rwa [wordsR4, word0_of_fields hop hz hvm] at hpkt

theorem packetOf_formatI {row : ElemType → Option (VReg → VReg → VReg → BitVec 8 → Instr)}
    (hop : field w 31 24 = op) (h : formatI w ops row = .ok i)
    (hrow : ∀ t mk, row t = some mk → ∀ vd va vb imm8, SelectorFits t imm8 →
      IsPacketOf (wordsI op t vd va vb imm8) (mk vd va vb imm8)) :
    IsPacketOf (w :: ops) i := by
  obtain ⟨hz, hsel, rfl, mk, hmk, rfl⟩ := formatI_eq_ok.mp h
  have himm : field w 7 0 = (w.extractLsb' 0 8).toNat := by
    rw [BitVec.extractLsb'_toNat, Nat.shiftRight_zero, field, Nat.pow_zero, Nat.div_one]
  have hfits : SelectorFits (elemType w) (w.extractLsb' 0 8) := by
    rw [SelectorFits, code_elemType, ← himm]
    refine hsel.imp_right fun hzero => ?_
    unfold field at *
    omega
  have hpkt := hrow _ mk hmk (regField w 16) (regField w 12) (regField w 8) _ hfits
  rwa [wordsI, word0_of_fields hop hz himm] at hpkt

theorem packetOf_formatU {row : ElemType → Option (VReg → VReg → Instr)} (hop : field w 31 24 = op)
    (h : formatU w ops row = .ok i)
    (hrow : ∀ t mk, row t = some mk → ∀ vd va, IsPacketOf (wordsU op t vd va) (mk vd va)) :
    IsPacketOf (w :: ops) i := by
  obtain ⟨hz, hlow, rfl, mk, hmk, rfl⟩ := formatU_eq_ok.mp h
  have hpkt := hrow _ mk hmk (regField w 16) (regField w 12)
  rwa [wordsU, word0_of_low12_zero hop hz hlow] at hpkt

theorem packetOf_formatM {row : ElemType → Option (VReg → Word → Instr)} (hop : field w 31 24 = op)
    (h : formatM w ops row = .ok i)
    (hrow : ∀ t mk, row t = some mk → ∀ vd addr, IsPacketOf (wordsM op t vd addr) (mk vd addr)) :
    IsPacketOf (w :: ops) i := by
  obtain ⟨hz, hlow, addr, rfl, mk, hmk, rfl⟩ := formatM_eq_ok.mp h
  have hpkt := hrow _ mk hmk (regField w 16) addr
  rwa [wordsM, word0_of_low16_zero hop hz hlow] at hpkt

theorem ScalarWords.packetOf {t : ElemType} {vd : VReg} (h : ScalarWords t vd ops i) :
    IsPacketOf (word0 0x10 t.code vd.val 0 0 0 :: ops) i := by
  cases h <;> exact ⟨rfl, rfl⟩

theorem packetOf_formatB (hop : field w 31 24 = 0x10) (h : formatB w ops = .ok i) : IsPacketOf (w :: ops) i := by
  obtain ⟨hz, hlow, hwords⟩ := formatB_eq_ok.mp h
  have hpkt := hwords.packetOf
  rwa [word0_of_low16_zero hop hz hlow] at hpkt

theorem packetOf_formatN (hop : field w 31 24 = op) (h : formatN w ops i = .ok j)
    (hrow : IsPacketOf [word0 op 0 0 0 0 0] i) : IsPacketOf (w :: ops) j := by
  obtain ⟨hhigh, rfl, rfl⟩ := formatN_eq_ok.mp h
  have hw := word0_of_high_zero (by decide) hop hhigh
  rw [Nat.pow_zero, Nat.mod_one] at hw
  rwa [hw] at hrow

/-- Bit 0, the one field of the first word of CONFIG, LOADIMP and WRFPM. -/
theorem word0_of_bit0 {b : Nat} (hop : field w 31 24 = op) (hhigh : field w 23 1 = 0) (hb : b = field w 0 0) :
    word0 op 0 0 0 0 b = w := by
  have hw := word0_of_high_zero (by decide) hop hhigh
  rwa [hb, field, Nat.pow_zero, Nat.div_one]

theorem field_bit0 (w : Word) : field w 0 0 = 0 ∨ field w 0 0 = 1 := Nat.mod_two_eq_zero_or_one _

theorem packetOf_formatC (hop : field w 31 24 = 0x01) (h : formatC w ops = .ok i) : IsPacketOf (w :: ops) i := by
  obtain ⟨hhigh, w1, rfl, rfl⟩ := formatC_eq_ok.mp h
  refine ⟨?_, rfl⟩
  rw [encode, BitVec.extractLsb'_append_extractLsb' (w := 16) (len := 16), word0_of_bit0 hop hhigh]
  rcases field_bit0 w with hb | hb <;> rw [hb] <;> rfl

theorem packetOf_formatL (hop : field w 31 24 = 0x02) (h : formatL w ops = .ok i) : IsPacketOf (w :: ops) i := by
  obtain ⟨hhigh, w1, w2, w3, w4, rfl, rfl⟩ := formatL_eq_ok.mp h
  refine ⟨?_, rfl⟩
  rw [encode, word0_of_bit0 hop hhigh]
  rcases field_bit0 w with hb | hb <;> rw [hb] <;> rfl

theorem packetOf_formatD (hop : field w 31 24 = 0x04) (h : formatD w ops = .ok i) : IsPacketOf (w :: ops) i := by
  obtain ⟨hhigh, rfl, rfl⟩ := formatD_eq_ok.mp h
  refine ⟨?_, rfl⟩
  rw [encode, BitVec.extractLsb'_toNat, Nat.shiftRight_zero, word0_of_high_zero (by decide) hop hhigh]

theorem packetOf_formatF (hop : field w 31 24 = 0x05) (h : formatF w ops = .ok i) : IsPacketOf (w :: ops) i := by
  obtain ⟨hhigh, rfl, rfl⟩ := formatF_eq_ok.mp h
  refine ⟨?_, rfl⟩
  rw [encode, word0_of_bit0 hop hhigh]
  rcases field_bit0 w with hb | hb <;> rw [hb] <;> rfl

/-- Along the opcode map (30_encoding.md R125): each opcode by the lemma of its format, with its row of commands. -/
theorem packetOf_decodeOp (hop : field w 31 24 = op) (h : decodeOp op w ops = .ok i) : IsPacketOf (w :: ops) i := by
  unfold decodeOp at h
  split at h
  -- NOP and PROCESS
  case h_1 | h_4 => exact packetOf_formatN hop h ⟨rfl, rfl⟩
  -- CONFIG, LOADIMP, CLRDIAG, WRFPM, VBCAST
  case h_2 => exact packetOf_formatC hop h
  case h_3 => exact packetOf_formatL hop h
  case h_5 => exact packetOf_formatD hop h
  case h_6 => exact packetOf_formatF hop h
  case h_7 => exact packetOf_formatB hop h
  -- 0x11 VADD to 0x1D VCMPLT
  case h_8 | h_9 | h_10 | h_11 | h_12 | h_13 | h_14 | h_15 | h_16 | h_17 | h_18 | h_19 | h_20 =>
    exact packetOf_formatR hop h (forall_allTypes (fun _ _ _ => ⟨rfl, rfl⟩) (fun _ _ _ => ⟨rfl, rfl⟩)
      (fun _ _ _ => ⟨rfl, rfl⟩) (fun _ _ _ => ⟨rfl, rfl⟩))
  -- VTEQ, VTGT, VTLT
  case h_21 | h_22 | h_23 =>
    exact packetOf_formatR hop h (forall_floatTypes (fun _ _ _ => ⟨rfl, rfl⟩) (fun _ _ _ => ⟨rfl, rfl⟩))
  -- VSEL
  case h_24 =>
    exact packetOf_formatR4 hop h (forall_allTypes (fun _ _ _ _ => ⟨rfl, rfl⟩) (fun _ _ _ _ => ⟨rfl, rfl⟩)
      (fun _ _ _ _ => ⟨rfl, rfl⟩) (fun _ _ _ _ => ⟨rfl, rfl⟩))
  -- VLDU, VSTU
  case h_25 | h_26 =>
    exact packetOf_formatM hop h (forall_allTypes (fun _ _ => ⟨rfl, rfl⟩) (fun _ _ => ⟨rfl, rfl⟩)
      (fun _ _ => ⟨rfl, rfl⟩) (fun _ _ => ⟨rfl, rfl⟩))
  -- VSHUF, whose 64-bit forms are well formed because the format checks the selector
  case h_27 =>
    exact packetOf_formatI hop h (forall_allTypes (fun _ _ _ _ _ => ⟨rfl, rfl⟩)
      (fun _ _ _ _ hfits => ⟨rfl, decide_eq_true (hfits.resolve_left (by decide))⟩) (fun _ _ _ _ _ => ⟨rfl, rfl⟩)
      (fun _ _ _ _ hfits => ⟨rfl, decide_eq_true (hfits.resolve_left (by decide))⟩))
  -- a reserved opcode
  case h_36 => cases h
  -- 0x28 VCVT.F32.I32 to 0x2F VCVT.F64.F32
  all_goals exact packetOf_formatU hop h (forall_onlyType fun _ _ => ⟨rfl, rfl⟩)

end PacketOfFormat

/-- Settles O2: a packet that decodes has a `word0`, and the opcode map answers for its opcode. -/
theorem encodeOfDecode : Obligations.EncodeOfDecode := by
  intro pkt i h
  cases pkt with
  | nil => cases h
  | cons w ops => exact packetOf_decodeOp rfl h

/-- Settles O3: seventeen closed packets, each read by evaluating the decoder. -/
theorem specWordsDecode : Obligations.SpecWordsDecode := by
  unfold Obligations.SpecWordsDecode
  decide

end Sys2Proof
end

section
/-! PROOFS. VectorOps arithmetic (40_vec_arith.md R150, R156, R160 to R168): the lanes of a value built lane by lane, what
a register-writing command comes to on either port, the wrapping integer operations, and the results of VBCAST, VADD,
VSUB, VMUL and VDIV. -/

namespace Sys2Proof.Machine

open Sys2Proof.Config

/-! ### The lanes of a value built lane by lane (00_scope.md R14) -/

section Vec32

variable (e0 e1 e2 e3 : Word)

theorem lane_vec32_0 : lane 32 (vec32 e0 e1 e2 e3) 0 = e0 := BitVec.extractLsb'_append_eq_right

theorem lane_vec32_1 : lane 32 (vec32 e0 e1 e2 e3) 1 = e1 :=
  (BitVec.extractLsb'_append_eq_of_le (xlo := e0) (by decide)).trans BitVec.extractLsb'_append_eq_right

theorem lane_vec32_2 : lane 32 (vec32 e0 e1 e2 e3) 2 = e2 :=
  (BitVec.extractLsb'_append_eq_of_le (xlo := e0) (by decide)).trans
    ((BitVec.extractLsb'_append_eq_of_le (xlo := e1) (by decide)).trans BitVec.extractLsb'_append_eq_right)

theorem lane_vec32_3 : lane 32 (vec32 e0 e1 e2 e3) 3 = e3 :=
  (BitVec.extractLsb'_append_eq_of_le (xlo := e0) (by decide)).trans
    ((BitVec.extractLsb'_append_eq_of_le (xlo := e1) (by decide)).trans BitVec.extractLsb'_append_eq_left)

end Vec32

theorem lane_vec64_0 (e0 e1 : Dword) : lane 64 (vec64 e0 e1) 0 = e0 := BitVec.extractLsb'_append_eq_right

theorem lane_vec64_1 (e0 e1 : Dword) : lane 64 (vec64 e0 e1) 1 = e1 := BitVec.extractLsb'_append_eq_left

theorem lane_gen32 (f : Nat → Word) {k : Nat} (hk : k < 4) : lane 32 (gen32 f) k = f k := by
  match k with
  | 0 => exact lane_vec32_0 _ _ _ _
  | 1 => exact lane_vec32_1 _ _ _ _
  | 2 => exact lane_vec32_2 _ _ _ _
  | 3 => exact lane_vec32_3 _ _ _ _

theorem lane_gen64 (f : Nat → Dword) {k : Nat} (hk : k < 2) : lane 64 (gen64 f) k = f k := by
  match k with
  | 0 => exact lane_vec64_0 _ _
  | 1 => exact lane_vec64_1 _ _

/-- What holds of the operation in each lane holds lane by lane of its result. -/
theorem lanes32_map32 {rel : Word → Word → Word → Prop} {f : Nat → Word → Word → Word}
    (h : ∀ k x y, rel x y (f k x y)) (a b : Vec) : Lanes32 rel a b (map32 f a b) := by
  intro k hk
  rw [map32, lane_gen32 _ hk]
  exact h k _ _

theorem lanes64_map64 {rel : Dword → Dword → Dword → Prop} {f : Nat → Dword → Dword → Dword}
    (h : ∀ k x y, rel x y (f k x y)) (a b : Vec) : Lanes64 rel a b (map64 f a b) := by
  intro k hk
  rw [map64, lane_gen64 _ hk]
  exact h k _ _

/-! ### What a register-writing command comes to (40_vec_arith.md R150) -/

theorem registerWritten_setReg {s : State} (hp : s.port = .p) {vd : VReg} {x : Vec} {good : Vec → Prop} (h : good x) :
    RegisterWritten s ((s.setReg vd x).complete 0) vd good where
  value := by simpa using h
  others := fun r hr => by simp [State.reg_setReg_other s hr]
  bytes := fun a => by simp
  rest := by simp [State.complete, State.setReg, hp]

/-- R150 (a), (b), (d): refused on port C and without the capability, and with it the one register is written. -/
theorem writesRegister_writesReg (s : State) (vd : VReg) {x : Vec} {good : Vec → Prop} (h : good x) :
    WritesRegister s (writesReg s vd x) vd good := by
  refine ⟨fun hc => ?_, fun hp hs => ?_, fun hp hs => ?_⟩
  · exact vectorCommand_wrong_port (by simp [hc]) _
  · exact vectorCommand_no_simd hp hs _
  · exact ⟨_, writesReg_runs hp hs vd x, registerWritten_setReg hp h⟩

/-! ### Integer lanes (40_vec_arith.md R156) -/

theorem toNat_sub_emod {w : Nat} (a b : BitVec w) : ((a - b).toNat : Int) = ((a.toNat : Int) - b.toNat) % 2 ^ w := by
  have hb : b.toNat ≤ 2 ^ w := Nat.le_of_lt b.isLt
  rw [BitVec.toNat_sub]
  push_cast [hb]
  rw [← Int.add_emod_right ((a.toNat : Int) - b.toNat)]
  congr 1
  ring

/-- R168: the quotient toward zero, with its two special divisors. -/
theorem toInt_intDiv {w : Nat} (hw : 0 < w) (a b : BitVec w) :
    (intDiv a b).toInt =
      if b.toInt = 0 then -1 else if a.toInt = -2 ^ (w - 1) ∧ b.toInt = -1 then -2 ^ (w - 1) else a.toInt.tdiv b.toInt := by
  have hzero : b = 0 ↔ b.toInt = 0 := by rw [← BitVec.toInt_inj]; simp
  have hones : b = BitVec.allOnes w ↔ b.toInt = -1 := by rw [← BitVec.toInt_inj]; simp [BitVec.toInt_allOnes, hw]
  have hmin : (BitVec.intMin w).toInt = -2 ^ (w - 1) := by
    rw [BitVec.toInt_intMin, Nat.mod_eq_of_lt (Nat.pow_lt_pow_right (by decide) (Nat.sub_one_lt_of_lt hw))]
    simp
  have hleast : a = BitVec.intMin w ↔ a.toInt = -2 ^ (w - 1) := by rw [← BitVec.toInt_inj, hmin]
  simp only [intDiv, hzero, hones, hleast]
  split
  · simp [BitVec.toInt_allOnes, hw]
  split
  · exact hmin
  · next hover =>
    rw [BitVec.toInt_ofInt, ← BitVec.toInt_sdiv]
    apply BitVec.toInt_sdiv_of_ne_or_ne
    rw [BitVec.neg_one_eq_allOnes, ne_eq, ne_eq, hleast, hones]
    exact not_and_or.mp hover

/-! ### The commands -/

/-- Settles O18: every lane is the scalar, by the lanes of a constant function. -/
theorem broadcastFillsEveryLane : Obligations.BroadcastFillsEveryLane := by
  intro vd x y s
  have h32 : ∀ k, k < 4 → lane 32 (gen32 fun _ => x) k = x := fun _ hk => lane_gen32 _ hk
  have h64 : ∀ k, k < 2 → lane 64 (gen64 fun _ => y) k = y := fun _ hk => lane_gen64 _ hk
  exact ⟨writesRegister_writesReg s vd h32, writesRegister_writesReg s vd h64,
    writesRegister_writesReg s vd h32, writesRegister_writesReg s vd h64⟩

/-- Settles O19: bit vector sums and differences wrap. -/
theorem integerAddSubResult : Obligations.IntegerAddSubResult := by
  intro vd va vb s
  refine ⟨?vaddI32, ?vaddI64, ?vsubI32, ?vsubI64⟩
  case vaddI32 => exact writesRegister_writesReg s vd (lanes32_map32 (fun _ => BitVec.toNat_add) _ _)
  case vaddI64 => exact writesRegister_writesReg s vd (lanes64_map64 (fun _ => BitVec.toNat_add) _ _)
  case vsubI32 => exact writesRegister_writesReg s vd (lanes32_map32 (fun _ => toNat_sub_emod) _ _)
  case vsubI64 => exact writesRegister_writesReg s vd (lanes64_map64 (fun _ => toNat_sub_emod) _ _)

/-- Settles O20: bit vector products keep the low bits, and `toInt_intDiv` gives the quotient's three cases. -/
theorem integerMulDivResult : Obligations.IntegerMulDivResult := by
  intro vd va vb s
  refine ⟨?vmulI32, ?vmulI64, ?vdivI32, ?vdivI64⟩
  case vmulI32 => exact writesRegister_writesReg s vd (lanes32_map32 (fun _ => BitVec.toNat_mul) _ _)
  case vmulI64 => exact writesRegister_writesReg s vd (lanes64_map64 (fun _ => BitVec.toNat_mul) _ _)
  case vdivI32 => exact writesRegister_writesReg s vd (lanes32_map32 (fun _ => toInt_intDiv (by decide)) _ _)
  case vdivI64 => exact writesRegister_writesReg s vd (lanes64_map64 (fun _ => toInt_intDiv (by decide)) _ _)

theorem f32_negate (x : Word) : f32.negate x = x ^^^ 0x80000000 := rfl

theorem f64_negate (x : Dword) : f64.negate x = x ^^^ 0x8000000000000000 := rfl

/-- Settles O21: each lane is `fadd` with the bits drawn for it; `fsub` is `fadd` of the negated second. -/
theorem floatAddSubResult : Obligations.FloatAddSubResult := by
  intro vd va vb s
  refine ⟨?vaddF32, ?vaddF64, ?vsubF32, ?vsubF64⟩
  case vaddF32 => exact writesRegister_writesReg s vd (lanes32_map32 (fun k _ _ => ⟨s.draw k, rfl⟩) _ _)
  case vaddF64 => exact writesRegister_writesReg s vd (lanes64_map64 (fun k _ _ => ⟨s.draw k, rfl⟩) _ _)
  case vsubF32 =>
    exact writesRegister_writesReg s vd (lanes32_map32 (fun k _ b => ⟨s.draw k, by rw [← f32_negate, FloatFormat.sub]⟩) _ _)
  case vsubF64 =>
    exact writesRegister_writesReg s vd (lanes64_map64 (fun k _ b => ⟨s.draw k, by rw [← f64_negate, FloatFormat.sub]⟩) _ _)

/-- Settles O22: each lane is `fmul` or `fdiv` with the bits drawn for it. -/
theorem floatMulDivResult : Obligations.FloatMulDivResult := by
  intro vd va vb s
  refine ⟨?vmulF32, ?vmulF64, ?vdivF32, ?vdivF64⟩
  case vmulF32 => exact writesRegister_writesReg s vd (lanes32_map32 (fun k _ _ => ⟨s.draw k, rfl⟩) _ _)
  case vmulF64 => exact writesRegister_writesReg s vd (lanes64_map64 (fun k _ _ => ⟨s.draw k, rfl⟩) _ _)
  case vdivF32 => exact writesRegister_writesReg s vd (lanes32_map32 (fun k _ _ => ⟨s.draw k, rfl⟩) _ _)
  case vdivF64 => exact writesRegister_writesReg s vd (lanes64_map64 (fun k _ _ => ⟨s.draw k, rfl⟩) _ _)

end Sys2Proof.Machine
end

section
/-! PROOFS. The float formats (40_vec_arith.md R151 to R153): sign, magnitude and value of the patterns the operations
answer, the quanta of the magnitudes, an equation for each operation and kind of operands, and what follows for special
operands and for flush-to-zero. -/

namespace Sys2Proof.Machine

/-- The fields of a format fill its width: one sign bit, an exponent and a fraction of at least one bit each. -/
structure FloatFormat.Proper {w : Nat} (F : FloatFormat w) : Prop where
  width : w = F.expBits + F.fracBits + 1
  expBits : 0 < F.expBits
  fracBits : 0 < F.fracBits

theorem f32_proper : f32.Proper := ⟨rfl, by decide, by decide⟩

theorem f64_proper : f64.Proper := ⟨rfl, by decide, by decide⟩

namespace FloatFormat

variable {w : Nat} {F : FloatFormat w}

/-! ### Magnitudes -/

theorem Proper.width_pos (hF : F.Proper) : 0 < w := by
  have hw := hF.width
  omega

theorem Proper.width_pred (hF : F.Proper) : w - 1 = F.expBits + F.fracBits := by
  have hw := hF.width
  omega

theorem infMag_add_binade (hF : F.Proper) : F.infMag + 2 ^ F.fracBits = 2 ^ (w - 1) := by
  have hone : 1 ≤ 2 ^ F.expBits := Nat.one_le_two_pow
  rw [infMag, maxExp, ← Nat.succ_mul, Nat.succ_eq_add_one, Nat.sub_add_cancel hone, ← pow_add, hF.width_pred]

theorem binade_le_infMag (hF : F.Proper) : 2 ^ F.fracBits ≤ F.infMag := by
  have hone : 2 ^ 1 ≤ 2 ^ F.expBits := Nat.pow_le_pow_right (by decide) hF.expBits
  exact Nat.le_mul_of_pos_left _ (by rw [maxExp]; omega)

theorem infMag_pos (hF : F.Proper) : 0 < F.infMag := Nat.lt_of_lt_of_le (Nat.two_pow_pos _) (binade_le_infMag hF)

theorem infMag_lt (hF : F.Proper) : F.infMag < 2 ^ (w - 1) := by
  have hpos := Nat.two_pow_pos F.fracBits
  have hadd := infMag_add_binade hF
  omega

/-! ### The pattern of a sign and a magnitude -/

theorem toNat_pack (hF : F.Proper) {m : Nat} (hm : m < 2 ^ (w - 1)) (neg : Bool) :
    (F.pack neg m).toNat = if neg then 2 ^ (w - 1) + m else m := by
  have hw : 2 ^ (w - 1) + 2 ^ (w - 1) = 2 ^ w := Nat.two_pow_pred_add_two_pow_pred hF.width_pos
  rw [pack, BitVec.toNat_ofNat]
  apply Nat.mod_eq_of_lt
  split <;> omega

theorem mag_pack (hF : F.Proper) {m : Nat} (hm : m < 2 ^ (w - 1)) (neg : Bool) : F.mag (F.pack neg m) = m := by
  rw [mag, toNat_pack hF hm]
  cases neg with
  | false => exact Nat.mod_eq_of_lt hm
  | true => exact (Nat.add_mod_left _ _).trans (Nat.mod_eq_of_lt hm)

theorem sign_pack (hF : F.Proper) {m : Nat} (hm : m < 2 ^ (w - 1)) (neg : Bool) : F.sign (F.pack neg m) = neg := by
  rw [sign, BitVec.msb_eq_decide, toNat_pack hF hm]
  cases neg with
  | false => simpa using hm
  | true => simp

theorem mag_zero (hF : F.Proper) (neg : Bool) : F.mag (F.zero neg) = 0 := mag_pack hF (Nat.two_pow_pos _) neg

theorem sign_zero (hF : F.Proper) (neg : Bool) : F.sign (F.zero neg) = neg := sign_pack hF (Nat.two_pow_pos _) neg

theorem mag_infinity (hF : F.Proper) (neg : Bool) : F.mag (F.infinity neg) = F.infMag := mag_pack hF (infMag_lt hF) neg

theorem sign_infinity (hF : F.Proper) (neg : Bool) : F.sign (F.infinity neg) = neg := sign_pack hF (infMag_lt hF) neg

theorem mag_quietNaN (hF : F.Proper) (d : Dword) : F.mag (F.quietNaN d) =
    F.infMag + 2 ^ (F.fracBits - 1) + d.toNat % 2 ^ (F.fracBits - 1) := by
  have hdraw : d.toNat % 2 ^ (F.fracBits - 1) < 2 ^ (F.fracBits - 1) := Nat.mod_lt _ (Nat.two_pow_pos _)
  have hhalf : 2 ^ (F.fracBits - 1) + 2 ^ (F.fracBits - 1) = 2 ^ F.fracBits := Nat.two_pow_pred_add_two_pow_pred hF.fracBits
  have hadd := infMag_add_binade hF
  exact mag_pack hF (by omega) _

/-- R163: inverting the sign bit inverts the sign and keeps the magnitude. -/
theorem mag_negate (hF : F.Proper) (x : BitVec w) : F.mag (F.negate x) = F.mag x := by
  have hlt : 2 ^ (w - 1) < 2 ^ w := Nat.pow_lt_pow_right (by decide) (Nat.sub_one_lt_of_lt hF.width_pos)
  rw [mag, mag, negate, BitVec.toNat_xor, BitVec.toNat_twoPow, Nat.mod_eq_of_lt hlt, Nat.xor_mod_two_pow, Nat.mod_self,
    Nat.xor_zero]

theorem sign_negate (hF : F.Proper) (x : BitVec w) : F.sign (F.negate x) = !F.sign x := by
  have hw : w - 1 < w := Nat.sub_one_lt_of_lt hF.width_pos
  simp [sign, negate, BitVec.msb_twoPow, hw]

/-! ### The quanta of the magnitudes (R151) -/

/-- The quanta of an exponent field `e` and a fraction `f`. -/
theorem quanta_fields (e : Nat) {f : Nat} (hf : f < 2 ^ F.fracBits) :
    F.quanta (e * 2 ^ F.fracBits + f) = if e = 0 then f else (2 ^ F.fracBits + f) * 2 ^ (e - 1) := by
  rw [quanta, Nat.mul_comm e, Nat.mul_add_div (Nat.two_pow_pos _), Nat.mul_add_mod, Nat.div_eq_of_lt hf,
    Nat.mod_eq_of_lt hf, Nat.add_zero]

/-- A magnitude of exponent `q` counts quanta in steps of `2 ^ q`; the first step of the next exponent included. -/
theorem quanta_spaced {q m : Nat} (hlow : q = 0 ∨ 2 ^ F.fracBits ≤ m) (hhigh : m ≤ 2 * 2 ^ F.fracBits) :
    F.quanta (q * 2 ^ F.fracBits + m) = m * 2 ^ q := by
  rcases Nat.lt_or_ge m (2 ^ F.fracBits) with hsub | hnormal
  · obtain rfl : q = 0 := by omega
    rw [quanta_fields 0 hsub, if_pos rfl, Nat.pow_zero, Nat.mul_one]
  rcases Nat.lt_or_eq_of_le hhigh with hlt | rfl
  · obtain ⟨f, rfl⟩ := Nat.exists_eq_add_of_le hnormal
    rw [← Nat.add_assoc, ← Nat.succ_mul, quanta_fields _ (by omega), if_neg q.succ_ne_zero, Nat.succ_sub_one]
  · rw [← Nat.add_mul, ← Nat.add_zero ((q + 2) * _), quanta_fields _ (Nat.two_pow_pos _), if_neg (q + 1).succ_ne_zero,
      Nat.add_zero, Nat.succ_sub_one, Nat.pow_succ]
    ring

/-- Every magnitude is counted in the steps of some exponent. -/
theorem exists_spaced (mag : Nat) : ∃ q m, mag = q * 2 ^ F.fracBits + m ∧ (q = 0 ∨ 2 ^ F.fracBits ≤ m) ∧
    m < 2 * 2 ^ F.fracBits := by
  have hmag : mag / 2 ^ F.fracBits * 2 ^ F.fracBits + mag % 2 ^ F.fracBits = mag := Nat.div_add_mod' mag _
  have hfrac : mag % 2 ^ F.fracBits < 2 ^ F.fracBits := Nat.mod_lt _ (Nat.two_pow_pos _)
  cases hexp : mag / 2 ^ F.fracBits with
  | zero => exact ⟨0, mag, by omega, .inl rfl, by rw [hexp] at hmag; omega⟩
  | succ q =>
    rw [hexp, Nat.succ_mul] at hmag
    exact ⟨q, 2 ^ F.fracBits + mag % 2 ^ F.fracBits, by omega, .inr (by omega), by omega⟩

theorem quanta_strictMono : StrictMono F.quanta := by
  refine strictMono_nat_of_lt_succ fun mag => ?_
  obtain ⟨q, m, rfl, hlow, hhigh⟩ := exists_spaced (F := F) mag
  rw [Nat.add_assoc, quanta_spaced hlow hhigh.le, quanta_spaced (by omega) hhigh]
  exact Nat.mul_lt_mul_of_pos_right m.lt_succ_self (Nat.two_pow_pos q)

theorem quanta_zero : F.quanta 0 = 0 := by simp [quanta]

theorem quanta_eq_zero {mag : Nat} : F.quanta mag = 0 ↔ mag = 0 := by
  rw [← quanta_strictMono.injective.eq_iff (a := mag) (b := 0), quanta_zero]

/-! ### What the patterns denote (R151) -/

theorem value_of_mag_lt {x : BitVec w} (h : F.mag x < F.infMag) : F.value x = .fin (F.sign x) (F.quanta (F.mag x)) :=
  if_pos h

theorem isNaN_iff_value (x : BitVec w) : F.isNaN x = true ↔ F.value x = .nan := by
  unfold isNaN value
  rw [decide_eq_true_eq]
  split
  · exact iff_of_false (by omega) (by simp)
  split
  · exact iff_of_false (by omega) (by simp)
  · exact iff_of_true (by omega) rfl

theorem value_infinity (hF : F.Proper) (neg : Bool) : F.value (F.infinity neg) = .inf neg := by
  rw [value, mag_infinity hF, if_neg (Nat.lt_irrefl _), if_pos rfl, sign_infinity hF]

theorem value_zero (hF : F.Proper) (neg : Bool) : F.value (F.zero neg) = .fin neg 0 := by
  rw [value_of_mag_lt (by rw [mag_zero hF]; exact infMag_pos hF), mag_zero hF, sign_zero hF, quanta_zero]

theorem isNaN_negate (hF : F.Proper) (x : BitVec w) : F.isNaN (F.negate x) = F.isNaN x := by
  rw [isNaN, isNaN, mag_negate hF]

/-- R152: a produced NaN is quiet whatever is drawn. -/
theorem quiet_quietNaN (hF : F.Proper) (d : Dword) : F.Quiet (F.quietNaN d) := by
  have hmag := mag_quietNaN hF d
  have hdraw : d.toNat % 2 ^ (F.fracBits - 1) < 2 ^ (F.fracBits - 1) := Nat.mod_lt _ (Nat.two_pow_pos _)
  have hhalf : 2 ^ (F.fracBits - 1) * 2 = 2 ^ F.fracBits := Nat.pow_pred_mul hF.fracBits
  generalize d.toNat % 2 ^ (F.fracBits - 1) = t at hmag hdraw
  have hbelow : F.fracBits - 1 < w - 1 := by
    have hw := hF.width_pred
    have hpos := hF.fracBits
    omega
  constructor
  · rw [hmag, infMag, Nat.add_assoc, Nat.mul_comm, Nat.mul_add_div (Nat.two_pow_pos _), Nat.div_eq_of_lt (by omega),
      Nat.add_zero]
  · have hbit : (F.quietNaN d).getLsbD (F.fracBits - 1) = (F.mag (F.quietNaN d)).testBit (F.fracBits - 1) := by
      rw [mag, Nat.testBit_mod_two_pow, BitVec.testBit_toNat, decide_eq_true hbelow, Bool.true_and]
    have hshape : F.mag (F.quietNaN d) = 2 ^ (F.fracBits - 1) * (2 * F.maxExp + 1) + t := by
      rw [hmag, infMag, ← hhalf]
      ring
    rw [hbit, hshape, Nat.testBit_two_pow_mul_add _ hdraw]
    simp

/-! ### Flush-to-zero (R153) -/

theorem subnormal_iff (x : BitVec w) : F.Subnormal x ↔ 0 < F.mag x ∧ F.mag x < 2 ^ F.fracBits := by
  rw [Subnormal, Nat.div_eq_zero_iff_lt (Nat.two_pow_pos _)]
  constructor
  · rintro ⟨hlt, hne⟩
    rw [Nat.mod_eq_of_lt hlt] at hne
    exact ⟨Nat.pos_of_ne_zero hne, hlt⟩
  · rintro ⟨hpos, hlt⟩
    rw [Nat.mod_eq_of_lt hlt]
    exact ⟨hlt, Nat.ne_of_gt hpos⟩

@[simp] theorem flush_false (x : BitVec w) : F.flush false x = x := rfl

theorem flush_true_of_subnormal {x : BitVec w} (h : F.Subnormal x) : F.flush true x = F.zero (F.sign x) := by
  simp [flush, (subnormal_iff x).mp h]

theorem flush_of_not_subnormal {x : BitVec w} (h : ¬ F.Subnormal x) (z : Bool) : F.flush z x = x := by
  rw [subnormal_iff] at h
  simp only [flush, h, decide_false, Bool.and_false, Bool.false_eq_true, if_false]

theorem not_subnormal_zero (hF : F.Proper) (neg : Bool) : ¬ F.Subnormal (F.zero neg) := by
  simp [subnormal_iff, mag_zero hF]

theorem not_subnormal_infinity (hF : F.Proper) (neg : Bool) : ¬ F.Subnormal (F.infinity neg) := by
  have h := binade_le_infMag hF
  rw [subnormal_iff, mag_infinity hF]
  omega

theorem not_subnormal_quietNaN (hF : F.Proper) (d : Dword) : ¬ F.Subnormal (F.quietNaN d) := by
  have h := binade_le_infMag hF
  rw [subnormal_iff, mag_quietNaN hF]
  omega

theorem roundMag_zero (d : Nat) : F.roundMag 0 d = 0 := by
  simp [roundMag, nearestEven]

/-- An exact zero is rounded and flushed to the zero of its sign. -/
theorem flush_round_zero (hF : F.Proper) (z neg : Bool) (d : Nat) : F.flush z (F.round neg 0 d) = F.zero neg := by
  rw [round, roundMag_zero]
  exact flush_of_not_subnormal (not_subnormal_zero hF neg) z

/-! ### The operations, one equation for each kind of operands (R152) -/

section Operations

variable {a b : BitVec w} {s t : Bool} {m n : Nat} (z : Bool) (d : Dword)

theorem add_of_nan (h : F.value a = .nan ∨ F.value b = .nan) : F.add z d a b = F.quietNaN d := by
  unfold add
  rcases h with ha | hb
  · rw [ha]
  · rw [hb]; cases F.value a <;> rfl

theorem add_inf_inf (ha : F.value a = .inf s) (hb : F.value b = .inf t) :
    F.add z d a b = if s = t then F.infinity s else F.quietNaN d := by
  simp only [add, ha, hb]

theorem add_inf_fin (ha : F.value a = .inf s) (hb : F.value b = .fin t n) : F.add z d a b = F.infinity s := by
  simp only [add, ha, hb]

theorem add_fin_inf (ha : F.value a = .fin s m) (hb : F.value b = .inf t) : F.add z d a b = F.infinity t := by
  simp only [add, ha, hb]

theorem add_fin_fin (ha : F.value a = .fin s m) (hb : F.value b = .fin t n) : F.add z d a b =
    if signedQuanta s m + signedQuanta t n = 0 then F.zero (s && t)
    else F.flush z (F.round (decide (signedQuanta s m + signedQuanta t n < 0))
      (signedQuanta s m + signedQuanta t n).natAbs 1) := by
  simp only [add, ha, hb]

theorem mul_of_nan (h : F.value a = .nan ∨ F.value b = .nan) : F.mul z d a b = F.quietNaN d := by
  unfold mul
  rcases h with ha | hb
  · rw [ha]
  · rw [hb]; cases F.value a <;> rfl

theorem mul_inf_inf (ha : F.value a = .inf s) (hb : F.value b = .inf t) : F.mul z d a b = F.infinity (s ^^ t) := by
  simp only [mul, ha, hb]

theorem mul_inf_fin (ha : F.value a = .inf s) (hb : F.value b = .fin t n) :
    F.mul z d a b = if n = 0 then F.quietNaN d else F.infinity (s ^^ t) := by
  simp only [mul, ha, hb]

theorem mul_fin_inf (ha : F.value a = .fin s m) (hb : F.value b = .inf t) :
    F.mul z d a b = if m = 0 then F.quietNaN d else F.infinity (s ^^ t) := by
  simp only [mul, ha, hb]

theorem mul_fin_fin (ha : F.value a = .fin s m) (hb : F.value b = .fin t n) :
    F.mul z d a b = F.flush z (F.round (s ^^ t) (m * n) (2 ^ F.shift)) := by
  simp only [mul, ha, hb]

theorem div_of_nan (h : F.value a = .nan ∨ F.value b = .nan) : F.div z d a b = F.quietNaN d := by
  unfold div
  rcases h with ha | hb
  · rw [ha]
  · rw [hb]; cases F.value a <;> rfl

theorem div_inf_inf (ha : F.value a = .inf s) (hb : F.value b = .inf t) : F.div z d a b = F.quietNaN d := by
  simp only [div, ha, hb]

theorem div_inf_fin (ha : F.value a = .inf s) (hb : F.value b = .fin t n) : F.div z d a b = F.infinity (s ^^ t) := by
  simp only [div, ha, hb]

theorem div_fin_inf (ha : F.value a = .fin s m) (hb : F.value b = .inf t) : F.div z d a b = F.zero (s ^^ t) := by
  simp only [div, ha, hb]

theorem div_fin_zero (ha : F.value a = .fin s m) (hb : F.value b = .fin t 0) :
    F.div z d a b = if m = 0 then F.quietNaN d else F.infinity (s ^^ t) := by
  simp only [div, ha, hb, if_pos]

theorem div_fin_fin (ha : F.value a = .fin s m) (hb : F.value b = .fin t n) (hn : n ≠ 0) :
    F.div z d a b = F.flush z (F.round (s ^^ t) (m * 2 ^ F.shift) n) := by
  simp only [div, ha, hb, if_neg hn]

end Operations

/-! ### Special operands (R152) -/

theorem specialCases (hF : F.Proper) : SpecialCases F := by
  have hquiet := quiet_quietNaN hF
  have hinf := value_infinity hF
  have hzero := value_zero hF
  have hmag {x : BitVec w} (hpos : 0 < F.mag x) : F.quanta (F.mag x) ≠ 0 := mt quanta_eq_zero.mp hpos.ne'
  constructor
  case nanOperand =>
    intro z d a b h
    have hneg : F.isNaN a = true ∨ F.isNaN (F.negate b) = true := by rwa [isNaN_negate hF]
    simp only [isNaN_iff_value] at h hneg
    rw [sub, add_of_nan z d h, add_of_nan z d hneg, mul_of_nan z d h, div_of_nan z d h]
    exact ⟨hquiet d, hquiet d, hquiet d, hquiet d⟩
  case infAdd =>
    intro z d s x
    refine ⟨?_, ?_, fun hx => ⟨?_, ?_⟩⟩
    · rw [add_inf_inf z d (hinf s) (hinf s), if_pos rfl]
    · rw [add_inf_inf z d (hinf s) (hinf !s), if_neg (by simp)]
      exact hquiet d
    · exact add_inf_fin z d (hinf s) (value_of_mag_lt hx)
    · exact add_fin_inf z d (value_of_mag_lt hx) (hinf s)
  case zeroSum =>
    intro z d s t
    rw [add_fin_fin z d (hzero s) (hzero t), if_pos (by simp [signedQuanta])]
  case cancel =>
    intro z d x _ hx
    have hx' : F.mag (F.negate x) < F.infMag := by rwa [mag_negate hF]
    have hsum : signedQuanta (F.sign x) (F.quanta (F.mag x)) +
        signedQuanta (F.sign (F.negate x)) (F.quanta (F.mag (F.negate x))) = 0 := by
      rw [mag_negate hF, sign_negate hF]
      cases F.sign x <;> simp [signedQuanta]
    rw [add_fin_fin z d (value_of_mag_lt hx) (value_of_mag_lt hx'), if_pos hsum, sign_negate hF, Bool.and_not_self]
  case infMul =>
    intro z d s t x
    refine ⟨mul_inf_inf z d (hinf s) (hinf t), ?_, ?_, fun hpos hx => ⟨?_, ?_⟩⟩
    · rw [mul_inf_fin z d (hinf s) (hzero t), if_pos rfl]
      exact hquiet d
    · rw [mul_fin_inf z d (hzero s) (hinf t), if_pos rfl]
      exact hquiet d
    · rw [mul_inf_fin z d (hinf s) (value_of_mag_lt hx), if_neg (hmag hpos)]
    · rw [mul_fin_inf z d (value_of_mag_lt hx) (hinf s), if_neg (hmag hpos)]
  case zeroMul =>
    intro z d s x hx
    rw [mul_fin_fin z d (hzero s) (value_of_mag_lt hx), Nat.zero_mul, flush_round_zero hF]
  case infDiv =>
    intro z d s t x
    refine ⟨?_, fun hx => div_fin_inf z d (value_of_mag_lt hx) (hinf s)⟩
    rw [div_inf_inf z d (hinf s) (hinf t)]
    exact hquiet d
  case zeroDiv =>
    intro z d s t x
    refine ⟨?_, fun hpos hx => ⟨?_, ?_⟩⟩
    · rw [div_fin_zero z d (hzero s) (hzero t), if_pos rfl]
      exact hquiet d
    · rw [div_fin_zero z d (value_of_mag_lt hx) (hzero s), if_neg (hmag hpos)]
    · rw [div_fin_fin z d (hzero s) (value_of_mag_lt hx) (hmag hpos), Nat.zero_mul, flush_round_zero hF]

/-! ### What an operation can answer in the two flush modes -/

/-- The answer of an operation as a function of the flush mode: a special pattern in both modes, or an exact result
rounded and then flushed (R152, R153). -/
inductive Produces (F : FloatFormat w) (d : Dword) : (Bool → BitVec w) → Prop
  | nan : Produces F d fun _ => F.quietNaN d
  | infinity (neg : Bool) : Produces F d fun _ => F.infinity neg
  | zero (neg : Bool) : Produces F d fun _ => F.zero neg
  | rounded (neg : Bool) (n k : Nat) : Produces F d fun z => F.flush z (F.round neg n k)

/-- R153: the mode flushes what the operation answers without it. -/
theorem Produces.flush_true (hF : F.Proper) {d : Dword} {r : Bool → BitVec w} (h : F.Produces d r) :
    r true = F.flush true (r false) := by
  cases h with
  | nan => exact (flush_of_not_subnormal (not_subnormal_quietNaN hF d) true).symm
  | infinity neg => exact (flush_of_not_subnormal (not_subnormal_infinity hF neg) true).symm
  | zero neg => exact (flush_of_not_subnormal (not_subnormal_zero hF neg) true).symm
  | rounded => rfl

theorem Produces.flushes (hF : F.Proper) {d : Dword} {r : Bool → BitVec w} (h : F.Produces d r) :
    (F.Subnormal (r false) → r true = F.zero (F.sign (r false))) ∧ (¬ F.Subnormal (r false) → r true = r false) := by
  rw [h.flush_true hF]
  exact ⟨flush_true_of_subnormal, fun hsub => flush_of_not_subnormal hsub true⟩

theorem produces_ite {c : Prop} [Decidable c] {d : Dword} {r r' : Bool → BitVec w} (h : F.Produces d r)
    (h' : F.Produces d r') : F.Produces d fun z => if c then r z else r' z := by
  split <;> assumption

theorem add_produces (d : Dword) (a b : BitVec w) : F.Produces d fun z => F.add z d a b := by
  cases ha : F.value a with
  | nan => simp only [add_of_nan _ d (.inl ha)]; exact .nan
  | inf s =>
    cases hb : F.value b with
    | nan => simp only [add_of_nan _ d (.inr hb)]; exact .nan
    | inf t => simp only [add_inf_inf _ d ha hb]; exact produces_ite (.infinity _) .nan
    | fin t n => simp only [add_inf_fin _ d ha hb]; exact .infinity _
  | fin s m =>
    cases hb : F.value b with
    | nan => simp only [add_of_nan _ d (.inr hb)]; exact .nan
    | inf t => simp only [add_fin_inf _ d ha hb]; exact .infinity _
    | fin t n => simp only [add_fin_fin _ d ha hb]; exact produces_ite (.zero _) (.rounded _ _ _)

theorem mul_produces (d : Dword) (a b : BitVec w) : F.Produces d fun z => F.mul z d a b := by
  cases ha : F.value a with
  | nan => simp only [mul_of_nan _ d (.inl ha)]; exact .nan
  | inf s =>
    cases hb : F.value b with
    | nan => simp only [mul_of_nan _ d (.inr hb)]; exact .nan
    | inf t => simp only [mul_inf_inf _ d ha hb]; exact .infinity _
    | fin t n => simp only [mul_inf_fin _ d ha hb]; exact produces_ite .nan (.infinity _)
  | fin s m =>
    cases hb : F.value b with
    | nan => simp only [mul_of_nan _ d (.inr hb)]; exact .nan
    | inf t => simp only [mul_fin_inf _ d ha hb]; exact produces_ite .nan (.infinity _)
    | fin t n => simp only [mul_fin_fin _ d ha hb]; exact .rounded _ _ _

theorem div_produces (d : Dword) (a b : BitVec w) : F.Produces d fun z => F.div z d a b := by
  cases ha : F.value a with
  | nan => simp only [div_of_nan _ d (.inl ha)]; exact .nan
  | inf s =>
    cases hb : F.value b with
    | nan => simp only [div_of_nan _ d (.inr hb)]; exact .nan
    | inf t => simp only [div_inf_inf _ d ha hb]; exact .nan
    | fin t n => simp only [div_inf_fin _ d ha hb]; exact .infinity _
  | fin s m =>
    cases hb : F.value b with
    | nan => simp only [div_of_nan _ d (.inr hb)]; exact .nan
    | inf t => simp only [div_fin_inf _ d ha hb]; exact .zero _
    | fin t n =>
      cases n with
      | zero => simp only [div_fin_zero _ d ha hb]; exact produces_ite .nan (.infinity _)
      | succ n => simp only [div_fin_fin _ d ha hb n.succ_ne_zero]; exact .rounded _ _ _

theorem flushesResults (hF : F.Proper) : FlushesResults F := by
  intro d a b op hop
  rcases hop with rfl | rfl | rfl | rfl
  · exact (add_produces d a b).flushes hF
  · exact (add_produces d a (F.negate b)).flushes hF
  · exact (mul_produces d a b).flushes hF
  · exact (div_produces d a b).flushes hF

end FloatFormat

theorem narrow_produces (d x : Dword) : f32.Produces d fun z => narrow z d x := by
  unfold narrow
  cases f64.value x with
  | nan => exact .nan
  | inf s => exact .infinity s
  | fin s m => exact .rounded _ _ _

/-- Settles O48: what the operations answer for the values of the listed operands. -/
theorem floatSpecialCases : Obligations.FloatSpecialCases :=
  ⟨FloatFormat.specialCases f32_proper, FloatFormat.specialCases f64_proper⟩

/-- Settles O49: every operation answers a special pattern in both modes or a rounded result, flushed. -/
theorem flushActsOnTheRoundedResult : Obligations.FlushActsOnTheRoundedResult :=
  ⟨FloatFormat.flushesResults f32_proper, FloatFormat.flushesResults f64_proper,
    fun d x => (narrow_produces d x).flushes f32_proper⟩

end Sys2Proof.Machine
end

section
/-! PROOFS. Rounding (40_vec_arith.md R152): the nearest multiple of a spacing, the distance of a magnitude from an exact
result, and that the model's rounding is to the nearest magnitude, ties to even, overflow to infinity. -/

namespace Sys2Proof.Machine

/-! ### The nearest whole number of a division -/

theorem nearestEven_cases (n d : Nat) : 2 * (n % d) < d ∧ nearestEven n d = n / d ∨
    d < 2 * (n % d) ∧ nearestEven n d = n / d + 1 ∨
    2 * (n % d) = d ∧ nearestEven n d = n / d + n / d % 2 := by
  unfold nearestEven
  split
  · exact .inl ⟨‹_›, rfl⟩
  split
  · exact .inr (.inl ⟨‹_›, rfl⟩)
  · exact .inr (.inr ⟨by omega, rfl⟩)

theorem nearestEven_eq_or (n d : Nat) : nearestEven n d = n / d ∨ nearestEven n d = n / d + 1 := by
  have h := nearestEven_cases n d
  omega

/-- A multiple of `d` is the one at `k`, the next one, or at least a step beyond the two. -/
theorem multiple_cases (j k d : Nat) : j = k ∧ j * d = k * d ∨ j = k + 1 ∧ j * d = k * d + d ∨
    j * d + d ≤ k * d ∨ k * d + 2 * d ≤ j * d := by
  rcases Nat.lt_trichotomy j k with hlt | rfl | hgt
  · exact .inr (.inr (.inl ((Nat.succ_mul j d).symm.trans_le (Nat.mul_le_mul_right d hlt))))
  · exact .inl ⟨rfl, rfl⟩
  rcases Nat.lt_or_eq_of_le (Nat.succ_le_of_lt hgt) with hgt | rfl
  · exact .inr (.inr (.inr ((Nat.add_mul k 2 d).symm.trans_le (Nat.mul_le_mul_right d hgt))))
  · exact .inr (.inl ⟨rfl, Nat.succ_mul k d⟩)

/-- No multiple of `d` is nearer to `n` than the one `nearestEven` answers, and an odd one is not as near as another. -/
theorem nearestEven_nearest {n d : Nat} (hd : 0 < d) (j : Nat) :
    ((nearestEven n d * d : Nat) - (n : Int)).natAbs ≤ ((j * d : Nat) - (n : Int)).natAbs ∧
      (j ≠ nearestEven n d → ((j * d : Nat) - (n : Int)).natAbs = ((nearestEven n d * d : Nat) - (n : Int)).natAbs →
        nearestEven n d % 2 = 0) := by
  have hn : n / d * d + n % d = n := Nat.div_add_mod' n d
  have hrem : n % d < d := Nat.mod_lt n hd
  have hcases := nearestEven_cases n d
  have hr : nearestEven n d * d = n / d * d ∧ nearestEven n d = n / d ∨
      nearestEven n d * d = n / d * d + d ∧ nearestEven n d = n / d + 1 :=
    (nearestEven_eq_or n d).imp (fun h => ⟨by rw [h], h⟩) (fun h => ⟨by rw [h, Nat.succ_mul], h⟩)
  have hj := multiple_cases j (n / d) d
  generalize nearestEven n d = r at *
  generalize n / d * d = below, r * d = chosen, j * d = other, n / d = k, n % d = rest at *
  omega

namespace FloatFormat

variable {w : Nat} {F : FloatFormat w}

/-! ### Distances -/

section Distance

variable {n d a b : Nat}

/-- On the far side of `n` the distance grows: downwards. -/
theorem distance_lt_of_below (hd : 0 < d) (hab : b < a) (ha : F.quanta a * d ≤ n) :
    F.distance n d a < F.distance n d b := by
  have hlt : F.quanta b * d < F.quanta a * d := Nat.mul_lt_mul_of_pos_right (quanta_strictMono hab) hd
  unfold distance
  omega

theorem distance_lt_of_above (hd : 0 < d) (hab : a < b) (ha : n ≤ F.quanta a * d) :
    F.distance n d a < F.distance n d b := by
  have hlt : F.quanta a * d < F.quanta b * d := Nat.mul_lt_mul_of_pos_right (quanta_strictMono hab) hd
  unfold distance
  omega

end Distance

/-! ### The rounding -/

/-- `r` is nearest to `n / d` quanta, ties to even, as if the exponents had no end. -/
def Closest (F : FloatFormat w) (n d r : Nat) : Prop :=
  ∀ mag, F.distance n d r ≤ F.distance n d mag ∧ (mag ≠ r → F.distance n d mag = F.distance n d r → r % 2 = 0)

/-- Overflow to infinity: what lies above the infinity is cut to it. -/
theorem Closest.nearest_min {n d r : Nat} (hd : 0 < d) (h : F.Closest n d r) : F.Nearest n d (min r F.infMag) := by
  refine ⟨Nat.min_le_right _ _, fun mag hmag => ?_⟩
  rcases Nat.lt_or_ge F.infMag r with hover | hin
  · rw [Nat.min_eq_right hover.le]
    obtain ⟨hr, -⟩ := h F.infMag
    have habove : F.quanta F.infMag * d ≤ n := by
      by_contra hbelow
      exact absurd (distance_lt_of_above hd hover (Nat.le_of_not_le hbelow)) hr.not_gt
    rcases Nat.lt_or_eq_of_le hmag with hlt | rfl
    · have hdist := distance_lt_of_below hd hlt habove
      exact ⟨hdist.le, fun _ heq => absurd heq hdist.ne'⟩
    · exact ⟨le_rfl, fun hne => absurd rfl hne⟩
  · rw [Nat.min_eq_left hin]
    exact h mag

theorem distance_spaced (n d : Nat) {q m : Nat} (hlow : q = 0 ∨ 2 ^ F.fracBits ≤ m) (hhigh : m ≤ 2 * 2 ^ F.fracBits) :
    F.distance n d (q * 2 ^ F.fracBits + m) = ((m * (d * 2 ^ q) : Nat) - (n : Int)).natAbs := by
  rw [distance, quanta_spaced hlow hhigh, Nat.mul_assoc, Nat.mul_comm (2 ^ q) d]

/-- A magnitude lies below the steps of exponent `q`, above them, or is one of them. -/
theorem spaced_trichotomy (F : FloatFormat w) (q mag : Nat) :
    q ≠ 0 ∧ mag < q * 2 ^ F.fracBits + 2 ^ F.fracBits ∨ q * 2 ^ F.fracBits + 2 * 2 ^ F.fracBits < mag ∨
      ∃ m, mag = q * 2 ^ F.fracBits + m ∧ (q = 0 ∨ 2 ^ F.fracBits ≤ m) ∧ m ≤ 2 * 2 ^ F.fracBits := by
  by_cases hbelow : q ≠ 0 ∧ mag < q * 2 ^ F.fracBits + 2 ^ F.fracBits
  · exact .inl hbelow
  by_cases habove : q * 2 ^ F.fracBits + 2 * 2 ^ F.fracBits < mag
  · exact .inr (.inl habove)
  have hle : q * 2 ^ F.fracBits ≤ mag := by
    rcases Nat.eq_zero_or_pos q with rfl | hq <;> omega
  obtain ⟨m, rfl⟩ := Nat.exists_eq_add_of_le hle
  exact .inr (.inr ⟨m, rfl, by omega, by omega⟩)

section Spaced

variable {n d q : Nat} (hd : 0 < d) (hlow : q = 0 ∨ 2 ^ F.fracBits * (d * 2 ^ q) ≤ n)
  (hhigh : n < 2 * 2 ^ F.fracBits * (d * 2 ^ q))

include hd hlow hhigh

/-- The nearest step is one of the steps of exponent `q`. -/
theorem nearestEven_spaced : (q = 0 ∨ 2 ^ F.fracBits ≤ nearestEven n (d * 2 ^ q)) ∧
    nearestEven n (d * 2 ^ q) ≤ 2 * 2 ^ F.fracBits := by
  have hstep : 0 < d * 2 ^ q := Nat.mul_pos hd (Nat.two_pow_pos q)
  have hlt : n / (d * 2 ^ q) < 2 * 2 ^ F.fracBits := (Nat.div_lt_iff_lt_mul hstep).mpr hhigh
  have hle := hlow.imp_right (Nat.le_div_iff_mul_le hstep).mpr
  have hor := nearestEven_eq_or n (d * 2 ^ q)
  omega

/-- Between `2 ^ fracBits` and twice as many steps of `2 ^ q` quanta (below, for the least exponent), the nearest step is
the nearest magnitude: one below or above the steps is farther from `n` than the first or the last of them. -/
theorem closest_spaced (hF : F.Proper) : F.Closest n d (q * 2 ^ F.fracBits + nearestEven n (d * 2 ^ q)) := by
  have hstep : 0 < d * 2 ^ q := Nat.mul_pos hd (Nat.two_pow_pos q)
  have hsteps (m : Nat) : m * 2 ^ q * d = m * (d * 2 ^ q) := by rw [Nat.mul_assoc, Nat.mul_comm (2 ^ q)]
  obtain ⟨hlowest, hhighest⟩ := nearestEven_spaced hd hlow hhigh
  have hnear := nearestEven_nearest (n := n) hstep
  generalize nearestEven n (d * 2 ^ q) = r at *
  have hbeyond {m mag : Nat} (hm : q = 0 ∨ 2 ^ F.fracBits ≤ m) (hm' : m ≤ 2 * 2 ^ F.fracBits)
      (hlt : F.distance n d (q * 2 ^ F.fracBits + m) < F.distance n d mag) :
      F.distance n d (q * 2 ^ F.fracBits + r) < F.distance n d mag := by
    obtain ⟨hle, -⟩ := hnear m
    rw [← distance_spaced n d hlowest hhighest, ← distance_spaced n d hm hm'] at hle
    exact Nat.lt_of_le_of_lt hle hlt
  intro mag
  rcases spaced_trichotomy F q mag with ⟨hq, hbelow⟩ | habove | ⟨m, rfl, hm, hm'⟩
  · have hlt := hbeyond (.inr le_rfl) (by omega) (distance_lt_of_below hd hbelow (by
      rw [quanta_spaced (.inr le_rfl) (by omega), hsteps]
      exact hlow.resolve_left hq))
    exact ⟨hlt.le, fun _ heq => absurd heq hlt.ne'⟩
  · have hlt := hbeyond (m := 2 * 2 ^ F.fracBits) (by omega) le_rfl (distance_lt_of_above hd habove (by
      rw [quanta_spaced (by omega) le_rfl, hsteps]
      exact hhigh.le))
    exact ⟨hlt.le, fun _ heq => absurd heq hlt.ne'⟩
  · obtain ⟨hle, htie⟩ := hnear m
    rw [distance_spaced n d hlowest hhighest, distance_spaced n d hm hm']
    have hparity : q * 2 ^ F.fracBits % 2 = 0 := by
      rw [Nat.mul_mod, Nat.two_pow_mod_two_eq_zero.mpr hF.fracBits, Nat.mul_zero]
    exact ⟨hle, fun hne heq => by have hr := htie (by omega) heq; omega⟩

end Spaced

theorem roundMag_eq {n d : Nat} (hd : 0 < d) : ∃ q, (q = 0 ∨ 2 ^ F.fracBits * (d * 2 ^ q) ≤ n) ∧
    n < 2 * 2 ^ F.fracBits * (d * 2 ^ q) ∧
    F.roundMag n d = min (q * 2 ^ F.fracBits + nearestEven n (d * 2 ^ q)) F.infMag := by
  have hsteps (a q : Nat) : a * (d * 2 ^ q) = a * 2 ^ q * d := by ring
  rcases Nat.lt_or_ge (n / d) (2 ^ (F.fracBits + 1)) with hsmall | hlarge
  · refine ⟨0, .inl rfl, ?_, by rw [roundMag, if_pos hsmall]⟩
    rwa [hsteps, Nat.pow_zero, Nat.mul_one, ← Nat.pow_succ', ← Nat.div_lt_iff_lt_mul hd]
  · have hne : n / d ≠ 0 := (Nat.lt_of_lt_of_le (Nat.two_pow_pos _) hlarge).ne'
    have hlog : F.fracBits + 1 ≤ Nat.log2 (n / d) := (Nat.le_log2 hne).mpr hlarge
    have hsum : F.fracBits + (Nat.log2 (n / d) - F.fracBits) = Nat.log2 (n / d) := by omega
    refine ⟨Nat.log2 (n / d) - F.fracBits, .inr ?_, ?_, by rw [roundMag, if_neg hlarge.not_gt]⟩
    · rw [hsteps, ← pow_add, hsum, ← Nat.le_div_iff_mul_le hd]
      exact Nat.log2_self_le hne
    · rw [hsteps, Nat.mul_assoc 2, ← pow_add, hsum, ← Nat.pow_succ', ← Nat.div_lt_iff_lt_mul hd]
      exact Nat.lt_log2_self

/-- R152: the rounded magnitude is the nearest one. -/
theorem nearest_roundMag (hF : F.Proper) {n d : Nat} (hd : 0 < d) : F.Nearest n d (F.roundMag n d) := by
  obtain ⟨q, hlow, hhigh, heq⟩ := roundMag_eq (F := F) (n := n) hd
  rw [heq]
  exact (closest_spaced hd hlow hhigh hF).nearest_min hd

theorem roundMag_lt (hF : F.Proper) (n d : Nat) : F.roundMag n d < 2 ^ (w - 1) :=
  Nat.lt_of_le_of_lt (Nat.min_le_right _ _) (infMag_lt hF)

theorem sign_round (hF : F.Proper) (neg : Bool) (n d : Nat) : F.sign (F.round neg n d) = neg :=
  sign_pack hF (roundMag_lt hF n d) neg

theorem mag_round (hF : F.Proper) (neg : Bool) (n d : Nat) : F.mag (F.round neg n d) = F.roundMag n d :=
  mag_pack hF (roundMag_lt hF n d) neg

/-- A rounded pattern has its sign and the nearest magnitude. -/
theorem round_correct (hF : F.Proper) (neg : Bool) (n : Nat) {d : Nat} (hd : 0 < d) :
    F.sign (F.round neg n d) = neg ∧ F.Nearest n d (F.mag (F.round neg n d)) := by
  rw [sign_round hF, mag_round hF]
  exact ⟨rfl, nearest_roundMag hF hd⟩

theorem correctlyRounded (hF : F.Proper) : CorrectlyRounded F := by
  intro d a b s t m n ha hb
  refine ⟨fun hsum => ?sum, ?product, fun hn => ?quotient⟩
  case sum =>
    rw [add_fin_fin false d ha hb, if_neg hsum]
    exact round_correct hF _ _ Nat.one_pos
  case product =>
    rw [mul_fin_fin false d ha hb]
    exact round_correct hF _ _ (Nat.two_pow_pos _)
  case quotient =>
    rw [div_fin_fin false d ha hb hn]
    exact round_correct hF _ _ (Nat.pos_of_ne_zero hn)

end FloatFormat

/-- Settles O47: each operation rounds the exact result, and the rounding is to the nearest. -/
theorem floatArithmeticIsCorrectlyRounded : Obligations.FloatArithmeticIsCorrectlyRounded :=
  ⟨FloatFormat.correctlyRounded f32_proper, FloatFormat.correctlyRounded f64_proper⟩

end Sys2Proof.Machine
end

section
/-! PROOFS. VectorOps bitwise logic, minimum and maximum (41_vec_logic_minmax.md R180 to R190): the bits of a lane, the
select that VAND, VANDN and VOR make of a mask, its lanes under a compare mask, and the results of the bitwise commands,
VMIN and VMAX. -/

namespace Sys2Proof.Machine

/-! ### The bits and the lanes of a value (00_scope.md R14) -/

theorem getLsbD_lane {W i : Nat} (hi : i < W) (v : Vec) (k : Nat) : (lane W v k).getLsbD i = v.getLsbD (W * k + i) := by
  simp [lane, hi]

/-- A vector value is its four 32-bit lanes: bit `i` stands in lane `i / 32`. -/
theorem eq_of_lanes32 {u v : Vec} (h : ∀ k, k < 4 → lane 32 u k = lane 32 v k) : u = v := by
  refine BitVec.eq_of_getLsbD_eq fun i hi => ?_
  have hbit : i % 32 < 32 := Nat.mod_lt i (by decide)
  have hlane := congrArg (·.getLsbD (i % 32)) (h (i / 32) (by omega))
  simpa only [getLsbD_lane hbit, Nat.div_add_mod] using hlane

/-- VANDN complements its first source (R182). -/
theorem getLsbD_not_and {w i : Nat} (hi : i < w) (a b : BitVec w) :
    (~~~a &&& b).getLsbD i = (!a.getLsbD i && b.getLsbD i) := by
  rw [BitVec.getLsbD_and, BitVec.getLsbD_not, decide_eq_true hi, Bool.true_and]

/-! ### The select made of and, andnot and or (R190) -/

/-- The first value where the mask is 1, the second where it is 0, as the synthesis of R190 computes it. -/
def bitSelect {w : Nat} (m a b : BitVec w) : BitVec w := (m &&& a) ||| (~~~m &&& b)

theorem getLsbD_bitSelect {w i : Nat} (hi : i < w) (m a b : BitVec w) :
    (bitSelect m a b).getLsbD i = if m.getLsbD i then a.getLsbD i else b.getLsbD i := by
  rw [bitSelect, BitVec.getLsbD_or, BitVec.getLsbD_and, getLsbD_not_and hi]
  cases m.getLsbD i <;> simp

theorem lane_bitSelect {W k : Nat} (hk : W * k + W ≤ 128) (m a b : Vec) :
    lane W (bitSelect m a b) k = bitSelect (lane W m k) (lane W a k) (lane W b k) := by
  refine BitVec.eq_of_getLsbD_eq fun i hi => ?_
  simp only [getLsbD_lane hi, getLsbD_bitSelect hi, getLsbD_bitSelect (show W * k + i < 128 by omega)]

/-- Under a mask of all ones or all zeros the select takes one of the values whole. -/
theorem bitSelect_maskLane {w : Nat} (c : Bool) (a b : BitVec w) :
    bitSelect (maskLane w c) a b = if c then a else b := by
  cases c <;> simp [bitSelect, maskLane]

/-! ### Compare and pick (R185) -/

theorem pick_intLt {w : Nat} (a b : BitVec w) : pick intLt a b = if a.toInt < b.toInt then a else b := by
  simp [pick, intLt]

theorem pick_intGt {w : Nat} (a b : BitVec w) : pick intGt a b = if b.toInt < a.toInt then a else b := by
  simp [pick, intGt]

theorem lanes32_pick (takeFirst : Word → Word → Bool) {choice : Word → Word → Word}
    (h : ∀ x y, pick takeFirst x y = choice x y) (a b : Vec) :
    Lanes32 (fun x y r => r = choice x y) a b (map32 (fun _ => pick takeFirst) a b) :=
  lanes32_map32 (rel := fun x y r => r = choice x y) (fun _ => h) a b

theorem lanes64_pick (takeFirst : Dword → Dword → Bool) {choice : Dword → Dword → Dword}
    (h : ∀ x y, pick takeFirst x y = choice x y) (a b : Vec) :
    Lanes64 (fun x y r => r = choice x y) a b (map64 (fun _ => pick takeFirst) a b) :=
  lanes64_map64 (rel := fun x y r => r = choice x y) (fun _ => h) a b

/-- The minimum by the greater-than comparison: sources neither of which is less are the same pattern. -/
theorem pick_intLt_eq_ite_intGt {w : Nat} (a b : BitVec w) : pick intLt a b = if intGt a b then b else a := by
  rw [pick_intLt, intGt]
  rcases lt_trichotomy a.toInt b.toInt with hlt | heq | hgt
  · simp [hlt, hlt.le]
  · simp [BitVec.eq_of_toInt_eq heq]
  · simp [hgt, hgt.not_gt]

/-- The mask VCMPGT.I32 leaves (42_vec_compare_select.md R204). -/
def gtMask32 (a b : Vec) : Vec := map32 (fun _ a b => maskLane 32 (intGt a b)) a b

theorem lane_bitSelect_gtMask32 {k : Nat} (hk : k < 4) (a b u v : Vec) :
    lane 32 (bitSelect (gtMask32 a b) u v) k =
      if intGt (lane 32 a k) (lane 32 b k) then lane 32 u k else lane 32 v k := by
  rw [lane_bitSelect (by omega), gtMask32, map32, lane_gen32 _ hk, bitSelect_maskLane]

/-- R190: selecting the second source under the mask gives the minimum of each lane. -/
theorem bitSelect_gtMask32_min (a b : Vec) : bitSelect (gtMask32 a b) b a = map32 (fun _ => pick intLt) a b := by
  refine eq_of_lanes32 fun k hk => ?_
  rw [lane_bitSelect_gtMask32 hk, map32, lane_gen32 _ hk, pick_intLt_eq_ite_intGt]

/-- R190: selecting the first source under the mask gives the maximum of each lane. -/
theorem bitSelect_gtMask32_max (a b : Vec) : bitSelect (gtMask32 a b) a b = map32 (fun _ => pick intGt) a b := by
  refine eq_of_lanes32 fun k hk => ?_
  rw [lane_bitSelect_gtMask32 hk, map32, lane_gen32 _ hk, pick]

/-! ### Chains of register-writing commands (40_vec_arith.md R150) -/

section Chains

variable {s s1 s2 s3 : State} (hp : s.port = .p) (hs : s.params.simdPresent = true)

include hp hs

theorem eq_of_writesReg {vd : VReg} {x : Vec} (h : writesReg s vd x = .next s1) :
    s1 = (s.setReg vd x).complete 0 := by
  rw [writesReg_runs hp hs] at h
  exact (Host.Outcome.next.inj h).symm

/-- The and, andnot and or of a mask and two sources leave the select of the sources; the temporary `x` may overlap
neither what the andnot reads nor its destination. -/
theorem reg_of_selectChain {vd x y g a b : VReg} (hxg : x ≠ g) (hxb : x ≠ b) (hxy : x ≠ y)
    (hand : writesReg s x (s.reg g &&& s.reg a) = .next s1)
    (handn : writesReg s1 y (~~~(s1.reg g) &&& s1.reg b) = .next s2)
    (hor : writesReg s2 vd (s2.reg x ||| s2.reg y) = .next s3) :
    s3.reg vd = bitSelect (s.reg g) (s.reg a) (s.reg b) := by
  obtain rfl := eq_of_writesReg hp hs hand
  obtain rfl := eq_of_writesReg (by simpa using hp) (by simpa using hs) handn
  obtain rfl := eq_of_writesReg (by simpa using hp) (by simpa using hs) hor
  simp [bitSelect, State.reg_setReg_other, hxg.symm, hxb.symm, hxy]

end Chains

/-! ### The commands -/

/-- Settles O52: the mask leaves both sources in place, each chain leaves their select under it, and the select is the
minimum or the maximum lane by lane. -/
theorem integerMinMaxEmulation : Obligations.IntegerMinMaxEmulation := by
  intro vd va vb g x y s s1 s2 s3 s4 t s2' s3' s4' t' hp hs hga hgb hxa hxb hxg hxy
    hgt hand handn hor hmin hand' handn' hor' hmax
  obtain rfl : s1 = (s.setReg g (gtMask32 (s.reg va) (s.reg vb))).complete 0 := eq_of_writesReg hp hs hgt
  obtain rfl := eq_of_writesReg hp hs hmin
  obtain rfl := eq_of_writesReg hp hs hmax
  have hchain := reg_of_selectChain (by simpa using hp) (by simpa using hs) hxg hxa hxy hand handn hor
  have hchain' := reg_of_selectChain (by simpa using hp) (by simpa using hs) hxg hxb hxy hand' handn' hor'
  simp only [State.reg_complete, State.reg_setReg_same, State.reg_setReg_other s hga.symm,
    State.reg_setReg_other s hgb.symm] at hchain hchain' ⊢
  exact ⟨hchain.trans (bitSelect_gtMask32_min _ _), hchain'.trans (bitSelect_gtMask32_max _ _)⟩

/-- Settles O23: the four forms of a command write the same value, of which each bit is the operation of two bits. -/
theorem bitwiseResult : Obligations.BitwiseResult := by
  rintro vd va vb s i op (⟨hand, rfl⟩ | ⟨handn, rfl⟩ | ⟨hor, rfl⟩ | ⟨hxor, rfl⟩)
  · rcases hand with rfl | rfl | rfl | rfl <;> exact writesRegister_writesReg s vd fun _ _ => BitVec.getLsbD_and
  · rcases handn with rfl | rfl | rfl | rfl <;> exact writesRegister_writesReg s vd fun _ hk => getLsbD_not_and hk _ _
  · rcases hor with rfl | rfl | rfl | rfl <;> exact writesRegister_writesReg s vd fun _ _ => BitVec.getLsbD_or
  · rcases hxor with rfl | rfl | rfl | rfl <;> exact writesRegister_writesReg s vd fun _ _ => BitVec.getLsbD_xor

/-- Settles O24: each lane is picked by the comparison of its element type. -/
theorem minMaxResult : Obligations.MinMaxResult := by
  intro vd va vb s
  refine ⟨?vminF32, ?vminF64, ?vminI32, ?vminI64, ?vmaxF32, ?vmaxF64, ?vmaxI32, ?vmaxI64⟩
  case vminF32 => exact writesRegister_writesReg s vd (lanes32_pick f32.lt (fun _ _ => rfl) _ _)
  case vminF64 => exact writesRegister_writesReg s vd (lanes64_pick f64.lt (fun _ _ => rfl) _ _)
  case vminI32 => exact writesRegister_writesReg s vd (lanes32_pick intLt pick_intLt _ _)
  case vminI64 => exact writesRegister_writesReg s vd (lanes64_pick intLt pick_intLt _ _)
  case vmaxF32 => exact writesRegister_writesReg s vd (lanes32_pick f32.gt (fun _ _ => rfl) _ _)
  case vmaxF64 => exact writesRegister_writesReg s vd (lanes64_pick f64.gt (fun _ _ => rfl) _ _)
  case vmaxI32 => exact writesRegister_writesReg s vd (lanes32_pick intGt pick_intGt _ _)
  case vmaxI64 => exact writesRegister_writesReg s vd (lanes64_pick intGt pick_intGt _ _)

end Sys2Proof.Machine
end

section
/-! PROOFS. VectorOps compare and select (42_vec_compare_select.md R200 to R212): the signed magnitude of a pattern, by
which the float predicates order the values, what a compare mask and a truth value are in each lane, and the results of
VCMPEQ, VCMPGT, VCMPLT, VTEQ, VTGT, VTLT and VSEL with their syntheses from the bitwise commands. -/

namespace Sys2Proof.Machine

/-! ### Signed magnitudes -/

theorem signedQuanta_lt_iff_of_strictMono {g : Nat → Nat} (hg : StrictMono g) (hzero : g 0 = 0) (s t : Bool)
    (m n : Nat) : signedQuanta s (g m) < signedQuanta t (g n) ↔ signedQuanta s m < signedQuanta t n := by
  have hmn := hg.lt_iff_lt (a := m) (b := n)
  have hnm := hg.lt_iff_lt (a := n) (b := m)
  have hm := hg.lt_iff_lt (a := 0) (b := m)
  have hn := hg.lt_iff_lt (a := 0) (b := n)
  cases s <;> cases t <;> simp only [signedQuanta, Bool.false_eq_true, if_true, if_false] <;> omega

/-- Below a greater magnitude the sign of that one decides, and so it does above one. -/
theorem signedQuanta_lt_iff_right {m n : Nat} (h : m < n) (s t : Bool) :
    signedQuanta s m < signedQuanta t n ↔ t = false := by
  cases s <;> cases t <;> simp [signedQuanta] <;> omega

theorem signedQuanta_lt_iff_left {m n : Nat} (h : n < m) (s t : Bool) :
    signedQuanta s m < signedQuanta t n ↔ s = true := by
  cases s <;> cases t <;> simp [signedQuanta] <;> omega

theorem signedQuanta_lt_iff_signs {m : Nat} (h : 0 < m) (s t : Bool) :
    signedQuanta s m < signedQuanta t m ↔ s = true ∧ t = false := by
  have hneg : -(m : Int) < m := by omega
  cases s <;> cases t <;> simp [signedQuanta, hneg, hneg.not_gt]

theorem signedQuanta_eq_iff (s t : Bool) (m n : Nat) :
    signedQuanta s m = signedQuanta t n ↔ s = t ∧ m = n ∨ m = 0 ∧ n = 0 := by
  cases s <;> cases t <;> simp [signedQuanta] <;> omega

namespace FloatFormat

variable {w : Nat} {F : FloatFormat w} {a b : BitVec w}

/-- The magnitude of a pattern, negated under a sign: where no NaN is, the predicates of R200 compare it. -/
def signedMag (F : FloatFormat w) (x : BitVec w) : Int := signedQuanta (F.sign x) (F.mag x)

theorem pack_sign_mag (hF : F.Proper) (x : BitVec w) : F.pack (F.sign x) (F.mag x) = x := by
  have hlt : F.mag x < 2 ^ (w - 1) := Nat.mod_lt _ (Nat.two_pow_pos _)
  have hw : 2 ^ (w - 1) + 2 ^ (w - 1) = 2 ^ w := Nat.two_pow_pred_add_two_pow_pred hF.width_pos
  have hx := x.isLt
  apply BitVec.eq_of_toNat_eq
  rw [toNat_pack hF hlt]
  simp only [sign, mag, BitVec.msb_eq_decide, decide_eq_true_eq]
  split
  · next hneg => rw [Nat.mod_eq_sub_mod hneg, Nat.mod_eq_of_lt (by omega)]; omega
  · next hpos => exact Nat.mod_eq_of_lt (by omega)

theorem signedMag_eq_iff (hF : F.Proper) : F.signedMag a = F.signedMag b ↔ a = b ∨ F.mag a = 0 ∧ F.mag b = 0 := by
  have hab : F.sign a = F.sign b ∧ F.mag a = F.mag b ↔ a = b :=
    ⟨fun ⟨hs, hm⟩ => by rw [← pack_sign_mag hF a, hs, hm, pack_sign_mag hF b], fun h => by simp [h]⟩
  rw [signedMag, signedMag, signedQuanta_eq_iff, hab]

/-- A pattern that is no NaN is finite or an infinity, as its magnitude says (R151). -/
theorem value_cases (h : F.isNaN a = false) :
    (F.mag a < F.infMag ∧ F.value a = .fin (F.sign a) (F.quanta (F.mag a))) ∨
      (F.mag a = F.infMag ∧ F.value a = .inf (F.sign a)) := by
  simp only [isNaN, decide_eq_false_iff_not, Nat.not_lt] at h
  rcases Nat.lt_or_eq_of_le h with hfin | hinf
  · exact .inl ⟨hfin, value_of_mag_lt hfin⟩
  · exact .inr ⟨hinf, by simp [value, hinf]⟩

/-! ### The predicates (R200) -/

theorem eq_of_nan (h : F.value a = .nan ∨ F.value b = .nan) : F.eq a b = false := by
  unfold FloatFormat.eq
  rcases h with h | h <;> rw [h]
  cases F.value a <;> rfl

theorem lt_of_nan (h : F.value a = .nan ∨ F.value b = .nan) : F.lt a b = false := by
  unfold FloatFormat.lt
  rcases h with h | h <;> rw [h]
  cases F.value a <;> rfl

/-- Quanta rise with the magnitude, and the magnitude of an infinity is beyond every finite one. -/
theorem lt_iff_signedMag (hF : F.Proper) (ha : F.isNaN a = false) (hb : F.isNaN b = false) :
    F.lt a b = true ↔ F.signedMag a < F.signedMag b := by
  have hpos := infMag_pos hF
  unfold FloatFormat.lt signedMag
  rcases value_cases ha with ⟨hma, hva⟩ | ⟨hma, hva⟩ <;> rcases value_cases hb with ⟨hmb, hvb⟩ | ⟨hmb, hvb⟩ <;>
    rw [hva, hvb]
  case inl.inl => simpa using signedQuanta_lt_iff_of_strictMono quanta_strictMono quanta_zero _ _ _ _
  case inl.inr => simp [hmb, signedQuanta_lt_iff_right hma]
  case inr.inl => simp [hma, signedQuanta_lt_iff_left hmb]
  case inr.inr => simp [hma, hmb, signedQuanta_lt_iff_signs hpos]

theorem eq_iff_signedMag (hF : F.Proper) (ha : F.isNaN a = false) (hb : F.isNaN b = false) :
    F.eq a b = true ↔ F.signedMag a = F.signedMag b := by
  have hpos := infMag_pos hF
  unfold FloatFormat.eq signedMag
  rw [signedQuanta_eq_iff]
  rcases value_cases ha with ⟨hma, hva⟩ | ⟨hma, hva⟩ <;> rcases value_cases hb with ⟨hmb, hvb⟩ | ⟨hmb, hvb⟩ <;>
    rw [hva, hvb]
  case inl.inl => simp [signedQuanta_eq_iff, quanta_strictMono.injective.eq_iff, quanta_eq_zero]
  case inl.inr => exact iff_of_false (by simp) (by omega)
  case inr.inl => exact iff_of_false (by simp) (by omega)
  case inr.inr => simp [hma, hmb, hpos.ne']

theorem ordersValues (hF : F.Proper) : OrdersValues F where
  unordered a b h := by
    simp only [isNaN_iff_value] at h
    exact ⟨eq_of_nan h, lt_of_nan h, lt_of_nan h.symm⟩
  converse _ _ := rfl
  trichotomy a b ha hb := by
    simp only [gt, ← Bool.not_eq_true, eq_iff_signedMag hF ha hb, lt_iff_signedMag hF ha hb, lt_iff_signedMag hF hb ha]
    omega
  equal a b ha hb := (eq_iff_signedMag hF ha hb).trans (signedMag_eq_iff hF)
  positive a b ha hb hsa hsb := by simp [lt_iff_signedMag hF ha hb, signedMag, hsa, hsb, signedQuanta]
  negative a b ha hb hsa hsb := by simp [lt_iff_signedMag hF ha hb, signedMag, hsa, hsb, signedQuanta]
  opposite a b ha hb hsa hsb := by
    simp only [lt_iff_signedMag hF ha hb, signedMag, hsa, hsb, signedQuanta, if_true, Bool.false_eq_true, if_false]
    omega

end FloatFormat

/-- Settles O50: in both formats the predicates compare the signed magnitudes. -/
theorem floatPredicatesOrderTheValues : Obligations.FloatPredicatesOrderTheValues :=
  ⟨FloatFormat.ordersValues f32_proper, FloatFormat.ordersValues f64_proper⟩

/-! ### Lanes of masks and of truth values (R207, R210) -/

/-- A vector value is its two 64-bit lanes: bit `i` stands in lane `i / 64`. -/
theorem eq_of_lanes64 {u v : Vec} (h : ∀ k, k < 2 → lane 64 u k = lane 64 v k) : u = v := by
  refine BitVec.eq_of_getLsbD_eq fun i hi => ?_
  have hbit : i % 64 < 64 := Nat.mod_lt i (by decide)
  have hlane := congrArg (·.getLsbD (i % 64)) (h (i / 64) (by omega))
  simpa only [getLsbD_lane hbit, Nat.div_add_mod] using hlane

theorem lane_and (W : Nat) (u v : Vec) (k : Nat) : lane W (u &&& v) k = lane W u k &&& lane W v k := by
  refine BitVec.eq_of_getLsbD_eq fun i hi => ?_
  simp only [getLsbD_lane hi, BitVec.getLsbD_and]

theorem maskLane_and_one {w : Nat} (F : FloatFormat w) (c : Bool) : maskLane w c &&& F.one = F.truth c := by
  cases c <;> simp [maskLane, FloatFormat.truth]

theorem maskLane_intEq {w : Nat} (a b : BitVec w) : maskLane w (intEq a b) = if a = b then BitVec.allOnes w else 0 := by
  simp [maskLane, intEq]

theorem maskLane_intGt {w : Nat} (a b : BitVec w) :
    maskLane w (intGt a b) = if b.toInt < a.toInt then BitVec.allOnes w else 0 := by
  simp [maskLane, intGt]

theorem maskLane_intLt {w : Nat} (a b : BitVec w) :
    maskLane w (intLt a b) = if a.toInt < b.toInt then BitVec.allOnes w else 0 := by
  simp [maskLane, intLt]

/-- A lane operation that equals `choice` relates the lanes of its result by `choice`. -/
theorem lanes32_map32_of_eq {f choice : Word → Word → Word} (h : ∀ x y, f x y = choice x y) (a b : Vec) :
    Lanes32 (fun x y r => r = choice x y) a b (map32 (fun _ => f) a b) :=
  lanes32_map32 (rel := fun x y r => r = choice x y) (fun _ => h) a b

theorem lanes64_map64_of_eq {f choice : Dword → Dword → Dword} (h : ∀ x y, f x y = choice x y) (a b : Vec) :
    Lanes64 (fun x y r => r = choice x y) a b (map64 (fun _ => f) a b) :=
  lanes64_map64 (rel := fun x y r => r = choice x y) (fun _ => h) a b

/-! ### The numeric compares from a mask (R207 to R209) -/

section Chains

variable {s s1 s2 s3 t : State} (hp : s.port = .p) (hs : s.params.simdPresent = true)

include hp hs

/-- A mask written, ones broadcast to another register, and their and. -/
theorem reg_of_maskAndChain {vd g o : VReg} {m ones : Vec} (hog : o ≠ g) (hmask : writesReg s g m = .next s1)
    (hones : writesReg s1 o ones = .next s2) (hand : writesReg s2 vd (s2.reg g &&& s2.reg o) = .next s3) :
    s3.reg vd = m &&& ones := by
  obtain rfl := eq_of_writesReg hp hs hmask
  obtain rfl := eq_of_writesReg (by simpa using hp) (by simpa using hs) hones
  obtain rfl := eq_of_writesReg (by simpa using hp) (by simpa using hs) hand
  simp [State.reg_setReg_other, hog.symm]

theorem reg_of_truthChain32 {vd g o : VReg} {a b : Vec} (p : Word → Word → Bool) (hog : o ≠ g)
    (hmask : writesReg s g (map32 (fun _ x y => maskLane 32 (p x y)) a b) = .next s1)
    (hones : writesReg s1 o (gen32 fun _ => f32.one) = .next s2)
    (hand : writesReg s2 vd (s2.reg g &&& s2.reg o) = .next s3)
    (htruth : writesReg s vd (map32 (fun _ x y => f32.truth (p x y)) a b) = .next t) : s3.reg vd = t.reg vd := by
  obtain rfl := eq_of_writesReg hp hs htruth
  rw [reg_of_maskAndChain hp hs hog hmask hones hand, State.reg_complete, State.reg_setReg_same]
  refine eq_of_lanes32 fun k hk => ?_
  rw [lane_and, map32, map32, lane_gen32 _ hk, lane_gen32 _ hk, lane_gen32 _ hk, maskLane_and_one]

theorem reg_of_truthChain64 {vd g o : VReg} {a b : Vec} (p : Dword → Dword → Bool) (hog : o ≠ g)
    (hmask : writesReg s g (map64 (fun _ x y => maskLane 64 (p x y)) a b) = .next s1)
    (hones : writesReg s1 o (gen64 fun _ => f64.one) = .next s2)
    (hand : writesReg s2 vd (s2.reg g &&& s2.reg o) = .next s3)
    (htruth : writesReg s vd (map64 (fun _ x y => f64.truth (p x y)) a b) = .next t) : s3.reg vd = t.reg vd := by
  obtain rfl := eq_of_writesReg hp hs htruth
  rw [reg_of_maskAndChain hp hs hog hmask hones hand, State.reg_complete, State.reg_setReg_same]
  refine eq_of_lanes64 fun k hk => ?_
  rw [lane_and, map64, map64, lane_gen64 _ hk, lane_gen64 _ hk, lane_gen64 _ hk, maskLane_and_one]

end Chains

/-! ### The commands -/

/-- Settles O53: the chain leaves the select under any mask (`reg_of_selectChain`), and that is what VSEL writes. -/
theorem selectEmulation : Obligations.SelectEmulation := by
  intro vd va vb vm x y s s1 s2 s3 t hp hs hxa hxm hxy hand handn hor hsel
  obtain rfl : t = (s.setReg vd (bitSelect (s.reg vm) (s.reg vb) (s.reg va))).complete 0 := eq_of_writesReg hp hs hsel
  rw [reg_of_selectChain hp hs hxm hxa hxy hand handn hor, State.reg_complete, State.reg_setReg_same]

/-- Settles O54: in each lane the mask keeps 1.0 or clears it, which is the truth value of the same predicate. -/
theorem truthIsMaskAndOne : Obligations.TruthIsMaskAndOne := by
  intro vd va vb g o s s1 s2 s3 t compare truth hp hs hog
  constructor
  · rintro (⟨rfl, rfl⟩ | ⟨rfl, rfl⟩ | ⟨rfl, rfl⟩) hmask hones hand htruth
    · exact reg_of_truthChain32 hp hs f32.eq hog hmask hones hand htruth
    · exact reg_of_truthChain32 hp hs f32.gt hog hmask hones hand htruth
    · exact reg_of_truthChain32 hp hs f32.lt hog hmask hones hand htruth
  · rintro (⟨rfl, rfl⟩ | ⟨rfl, rfl⟩ | ⟨rfl, rfl⟩) hmask hones hand htruth
    · exact reg_of_truthChain64 hp hs f64.eq hog hmask hones hand htruth
    · exact reg_of_truthChain64 hp hs f64.gt hog hmask hones hand htruth
    · exact reg_of_truthChain64 hp hs f64.lt hog hmask hones hand htruth

/-- Settles O25: each lane is the mask of its predicate; the integer predicates compare the signed readings. -/
theorem compareMaskResult : Obligations.CompareMaskResult := by
  intro vd va vb s
  refine ⟨?eqF32, ?eqF64, ?eqI32, ?eqI64, ?gtF32, ?gtF64, ?gtI32, ?gtI64, ?ltF32, ?ltF64, ?ltI32, ?ltI64⟩
  case eqF32 => exact writesRegister_writesReg s vd (lanes32_map32_of_eq (fun _ _ => rfl) _ _)
  case eqF64 => exact writesRegister_writesReg s vd (lanes64_map64_of_eq (fun _ _ => rfl) _ _)
  case eqI32 => exact writesRegister_writesReg s vd (lanes32_map32_of_eq maskLane_intEq _ _)
  case eqI64 => exact writesRegister_writesReg s vd (lanes64_map64_of_eq maskLane_intEq _ _)
  case gtF32 => exact writesRegister_writesReg s vd (lanes32_map32_of_eq (fun _ _ => rfl) _ _)
  case gtF64 => exact writesRegister_writesReg s vd (lanes64_map64_of_eq (fun _ _ => rfl) _ _)
  case gtI32 => exact writesRegister_writesReg s vd (lanes32_map32_of_eq maskLane_intGt _ _)
  case gtI64 => exact writesRegister_writesReg s vd (lanes64_map64_of_eq maskLane_intGt _ _)
  case ltF32 => exact writesRegister_writesReg s vd (lanes32_map32_of_eq (fun _ _ => rfl) _ _)
  case ltF64 => exact writesRegister_writesReg s vd (lanes64_map64_of_eq (fun _ _ => rfl) _ _)
  case ltI32 => exact writesRegister_writesReg s vd (lanes32_map32_of_eq maskLane_intLt _ _)
  case ltI64 => exact writesRegister_writesReg s vd (lanes64_map64_of_eq maskLane_intLt _ _)

/-- Settles O26: each lane is the truth value of its predicate. -/
theorem compareTruthResult : Obligations.CompareTruthResult := by
  intro vd va vb s
  refine ⟨?eqF32, ?eqF64, ?gtF32, ?gtF64, ?ltF32, ?ltF64⟩
  case eqF32 => exact writesRegister_writesReg s vd (lanes32_map32_of_eq (fun _ _ => rfl) _ _)
  case eqF64 => exact writesRegister_writesReg s vd (lanes64_map64_of_eq (fun _ _ => rfl) _ _)
  case gtF32 => exact writesRegister_writesReg s vd (lanes32_map32_of_eq (fun _ _ => rfl) _ _)
  case gtF64 => exact writesRegister_writesReg s vd (lanes64_map64_of_eq (fun _ _ => rfl) _ _)
  case ltF32 => exact writesRegister_writesReg s vd (lanes32_map32_of_eq (fun _ _ => rfl) _ _)
  case ltF64 => exact writesRegister_writesReg s vd (lanes64_map64_of_eq (fun _ _ => rfl) _ _)

/-- Settles O27: the four forms write the same value, the select of the sources by the mask. -/
theorem selectResult : Obligations.SelectResult := by
  rintro vd va vb vm s i (rfl | rfl | rfl | rfl) <;>
    exact writesRegister_writesReg s vd fun _ hk => getLsbD_bitSelect hk (s.reg vm) (s.reg vb) (s.reg va)

end Sys2Proof.Machine
end

section
/-! PROOFS. VectorOps memory and shuffle (43_vec_mem_shuffle_convert.md R220 to R227): the bytes of a 16-byte access, what
the loads, the stores and the shuffles come to on either port, and a load after a store. -/

namespace Sys2Proof.Machine

open Sys2Proof.Config

/-! ### The bytes of a read and of a 16-byte write (20_memory.md R70 to R72) -/

theorem extractLsb'_read32 (m : Memory) (a : Nat) {j : Nat} (hj : j < 4) :
    (m.read32 a).extractLsb' (8 * j) 8 = m.byte (a + j) := by
  unfold Memory.read32
  match j with
  | 0 => exact BitVec.extractLsb'_append_eq_right
  | 1 => rw [BitVec.extractLsb'_append_eq_of_le (by decide)]; exact BitVec.extractLsb'_append_eq_right
  | 2 =>
    rw [BitVec.extractLsb'_append_eq_of_le (by decide), BitVec.extractLsb'_append_eq_of_le (by decide)]
    exact BitVec.extractLsb'_append_eq_right
  | 3 =>
    rw [BitVec.extractLsb'_append_eq_of_le (by decide), BitVec.extractLsb'_append_eq_of_le (by decide)]
    exact BitVec.extractLsb'_append_eq_left

theorem extractLsb'_read64 (m : Memory) (a : Nat) {j : Nat} (hj : j < 8) :
    (m.read64 a).extractLsb' (8 * j) 8 = m.byte (a + j) := by
  unfold Memory.read64
  rcases Nat.lt_or_ge j 4 with hlow | hhigh
  · rw [BitVec.extractLsb'_append_eq_of_add_le (by omega), extractLsb'_read32 m a hlow]
  · obtain ⟨i, rfl⟩ := Nat.exists_eq_add_of_le hhigh
    rw [BitVec.extractLsb'_append_eq_of_le (by omega), show 8 * (4 + i) - 32 = 8 * i by omega,
      extractLsb'_read32 m (a + 4) (by omega), Nat.add_assoc]

/-- R71: byte `j` of a 16-byte read is the byte at address `a + j`. -/
theorem extractLsb'_read128 (m : Memory) (a : Nat) {j : Nat} (hj : j < 16) :
    (m.read128 a).extractLsb' (8 * j) 8 = m.byte (a + j) := by
  unfold Memory.read128
  rcases Nat.lt_or_ge j 8 with hlow | hhigh
  · rw [BitVec.extractLsb'_append_eq_of_add_le (by omega), extractLsb'_read64 m a hlow]
  · obtain ⟨i, rfl⟩ := Nat.exists_eq_add_of_le hhigh
    rw [BitVec.extractLsb'_append_eq_of_le (by omega), show 8 * (8 + i) - 64 = 8 * i by omega,
      extractLsb'_read64 m (a + 8) (by omega), Nat.add_assoc]

/-- The bytes of a 16-byte write are those that a read of it gives back. -/
theorem byte_write128 (m : Memory) {a : Nat} (x : Vec) {j : Nat} (hj : j < 16) (h : a + 16 ≤ mapEnd) :
    (m.write128 a x).byte (a + j) = x.extractLsb' (8 * j) 8 := by
  rw [← extractLsb'_read128 _ a hj, Memory.read128_write128 m x h]

/-! ### Where the loads and the stores may go (R220) -/

theorem loadable_iff (a : Nat) : loadable a = true ↔ a + 15 ≤ 0x07FFF ∨ 0x08000 ≤ a ∧ a + 15 ≤ 0x09FFF ∨
    0x0A000 ≤ a ∧ a + 15 ≤ 0x0DFFF ∨ 0x0E000 ≤ a ∧ a + 15 ≤ 0x11FFF := by
  simp [loadable, contained, Region.base, Region.last, or_assoc]

theorem storable_iff (a : Nat) : storable a = true ↔ 0x0A000 ≤ a ∧ a + 15 ≤ 0x0DFFF ∨
    0x0E000 ≤ a ∧ a + 15 ≤ 0x11FFF := by
  simp [storable, contained, Region.base, Region.last]

theorem loadable_of_storable {a : Nat} (h : storable a = true) : loadable a = true :=
  (loadable_iff a).mpr (.inr (.inr ((storable_iff a).mp h)))

theorem mapped_of_storable {a : Nat} (h : storable a = true) : a + 16 ≤ mapEnd := by
  have hend : mapEnd = 0x12000 := rfl
  rw [storable_iff] at h
  omega

/-! ### What the commands come to (40_vec_arith.md R150; R222, R223, R227) -/

section Commands

variable {s : State}

/-- R150 (a), (b): refused on port C and without the capability, else the command's own outcome. -/
theorem vectorOutcome_vectorCommand {t : State} {ran : State → Prop}
    (h : s.port = .p → s.params.simdPresent = true → ran t) : VectorOutcome s (vectorCommand s (.next t)) ran := by
  refine ⟨fun hc => ?_, fun hp hs => ?_, fun hp hs => ?_⟩
  · exact vectorCommand_wrong_port (by simp [hc]) _
  · exact vectorCommand_no_simd hp hs _
  · exact ⟨t, vectorCommand_runs hp hs _, h hp hs⟩

theorem loadVec_inside {a : Nat} (h : loadable a = true) (vd : VReg) :
    loadVec vd a s = writesReg s vd (s.mem.read128 a) := by
  rw [loadVec, if_pos h, writesReg]

theorem loadVec_outside {a : Nat} (h : ¬ loadable a = true) (vd : VReg) :
    loadVec vd a s = vectorCommand s (.next (s.refused .addr)) := by
  rw [loadVec, if_neg h, refuse_eq]

theorem storeVec_inside {a : Nat} (h : storable a = true) (vs : VReg) :
    storeVec vs a s = vectorCommand s (.next ((s.setMem (s.mem.write128 a (s.reg vs))).complete 0)) := by
  rw [storeVec, if_pos h, done_eq]

theorem storeVec_outside {a : Nat} (h : ¬ storable a = true) (vs : VReg) :
    storeVec vs a s = vectorCommand s (.next (s.refused .addr)) := by
  rw [storeVec, if_neg h, refuse_eq]

/-- A store that answered `OK` stored. -/
theorem storeVec_completed {t : State} {vs : VReg} {a : Nat} (h : storeVec vs a s = .next t)
    (hok : t.output = .response .ok 0) : s.port = .p ∧ s.params.simdPresent = true ∧ storable a = true ∧
      t = (s.setMem (s.mem.write128 a (s.reg vs))).complete 0 := by
  rcases storeVec_next h with ⟨hp, hs, ⟨ha, ht⟩ | ⟨-, rfl⟩⟩ | ⟨-, rfl⟩ | ⟨-, -, rfl⟩
  · exact ⟨hp, hs, ha, ht⟩
  · simp at hok
  · simp at hok
  · simp at hok

variable {imm8 : BitVec 8} (vd va vb : VReg)

theorem shuffleCommand64_selects (h : imm8.toNat < 4) :
    shuffleCommand64 vd va vb imm8 s = writesReg s vd (shuffle64 imm8 (s.reg va) (s.reg vb)) := by
  have hok : shuffleImm64Ok imm8 = true := decide_eq_true h
  rw [shuffleCommand64, unlessMalformed, if_pos hok, writesReg, vectorCommand]

theorem shuffleCommand64_malformed (h : 4 ≤ imm8.toNat) :
    shuffleCommand64 vd va vb imm8 s = onPort .p s (.next (s.refused .illegal)) := by
  have hbad : ¬ shuffleImm64Ok imm8 = true := by simpa [shuffleImm64Ok] using h
  rw [shuffleCommand64, unlessMalformed, if_neg hbad, refuse_eq]

end Commands

/-! ### The selectors of a shuffle (R226, R227) -/

theorem selector32_eq (imm8 : BitVec 8) (k : Nat) : selector32 imm8 k = imm8.toNat / 4 ^ k % 4 := by
  rw [selector32, BitVec.extractLsb'_toNat, Nat.shiftRight_eq_div_pow, Nat.pow_mul]

theorem selector64_eq (imm8 : BitVec 8) (k : Nat) : selector64 imm8 k = imm8.toNat / 2 ^ k % 2 := by
  rw [selector64, BitVec.extractLsb'_toNat, Nat.shiftRight_eq_div_pow, Nat.pow_one]

theorem shuffle32_lanes (imm8 : BitVec 8) (a b : Vec) :
    lane 32 (shuffle32 imm8 a b) 0 = lane 32 a (imm8.toNat % 4) ∧
      lane 32 (shuffle32 imm8 a b) 1 = lane 32 a (imm8.toNat / 4 % 4) ∧
      lane 32 (shuffle32 imm8 a b) 2 = lane 32 b (imm8.toNat / 16 % 4) ∧
      lane 32 (shuffle32 imm8 a b) 3 = lane 32 b (imm8.toNat / 64) := by
  have htop : imm8.toNat / 64 % 4 = imm8.toNat / 64 := Nat.mod_eq_of_lt (by omega)
  rw [shuffle32, lane_vec32_0, lane_vec32_1, lane_vec32_2, lane_vec32_3]
  simp [selector32_eq, htop]

theorem shuffle64_lanes {imm8 : BitVec 8} (h : imm8.toNat < 4) (a b : Vec) :
    lane 64 (shuffle64 imm8 a b) 0 = lane 64 a (imm8.toNat % 2) ∧
      lane 64 (shuffle64 imm8 a b) 1 = lane 64 b (imm8.toNat / 2) := by
  have htop : imm8.toNat / 2 % 2 = imm8.toNat / 2 := Nat.mod_eq_of_lt (by omega)
  rw [shuffle64, lane_vec64_0, lane_vec64_1]
  simp [selector64_eq, htop]

/-! ### The commands -/

/-- Settles O28: the four forms are one load, and its two clauses are the two cases of `loadable`. -/
theorem loadResult : Obligations.LoadResult := by
  intro vd addr s i hi a inside
  have hexec : exec i s = loadVec vd a s := by
    rcases hi with rfl | rfl | rfl | rfl <;> rfl
  rw [hexec]
  constructor
  · intro hin
    rw [loadVec_inside ((loadable_iff a).mpr hin)]
    exact writesRegister_writesReg s vd fun j hj => extractLsb'_read128 s.mem a hj
  · intro hout
    rw [loadVec_outside (mt (loadable_iff a).mp hout)]
    exact vectorOutcome_vectorCommand fun _ _ => rfl

/-- Settles O29: the four forms are one store, and its two clauses are the two cases of `storable`. -/
theorem storeResult : Obligations.StoreResult := by
  intro vs addr s i hi a inside
  have hexec : exec i s = storeVec vs a s := by
    rcases hi with rfl | rfl | rfl | rfl <;> rfl
  rw [hexec]
  constructor
  · intro hin
    have hstore : storable a = true := (storable_iff a).mpr hin
    rw [storeVec_inside hstore]
    refine vectorOutcome_vectorCommand fun hp _ => ⟨fun j hj => ?_, fun c hc => ?_, ?_⟩
    · exact byte_write128 s.mem _ hj (mapped_of_storable hstore)
    · exact Memory.byte_write128_outside s.mem _ hc
    · simp [State.complete, State.setMem, hp]
  · intro hout
    rw [storeVec_outside (mt (storable_iff a).mp hout)]
    exact vectorOutcome_vectorCommand fun _ _ => rfl

/-- Settles O55: what was stored is inside one region, so the load reads those 16 bytes back. -/
theorem storeThenLoadReturnsTheBits : Obligations.StoreThenLoadReturnsTheBits := by
  intro vs vd addr s t u store load hstore hload hst hok hld
  have hexec : exec store s = storeVec vs addr.toNat s := by
    rcases hstore with rfl | rfl | rfl | rfl <;> rfl
  have hexec' : exec load t = loadVec vd addr.toNat t := by
    rcases hload with rfl | rfl | rfl | rfl <;> rfl
  rw [hexec] at hst
  obtain ⟨hp, hs, ha, rfl⟩ := storeVec_completed hst hok
  rw [hexec', loadVec_inside (loadable_of_storable ha)] at hld
  obtain rfl := eq_of_writesReg (by simpa using hp) (by simpa using hs) hld
  simp [Memory.read128_write128 s.mem _ (mapped_of_storable ha)]

/-- Settles O30: the two 32-bit forms write one shuffle; the two 64-bit forms check the selector first. -/
theorem shuffleResult : Obligations.ShuffleResult := by
  intro vd va vb imm8 s i
  constructor
  · rintro (rfl | rfl) <;> exact writesRegister_writesReg s vd (shuffle32_lanes imm8 _ _)
  · intro hi
    have hexec : exec i s = shuffleCommand64 vd va vb imm8 s := by
      rcases hi with rfl | rfl <;> rfl
    rw [hexec]
    refine ⟨fun hsel => ?_, fun hbad hp => ?_, fun hbad hc => ?_⟩
    · rw [shuffleCommand64_selects vd va vb hsel]
      exact writesRegister_writesReg s vd (shuffle64_lanes hsel _ _)
    · rw [shuffleCommand64_malformed vd va vb hbad]
      exact onPort_accepted hp _
    · exact onPort_refused (by simp [hc]) _

end Sys2Proof.Machine
end

section
/-! PROOFS. VectorOps conversions (43_vec_mem_shuffle_convert.md R230 to R238): exact results are not rounded, saturation
and the two roundings to an integer, narrowing and widening, and the results of VCVT, VCVTT and VCVTR. -/

namespace Sys2Proof.Machine

theorem f32_shift : f32.shift = 149 := rfl

theorem f64_shift : f64.shift = 1074 := rfl

theorem shift_gap : f64.shift - f32.shift = 925 := rfl

theorem two_pow_gap_pos : 0 < 2 ^ 925 := by positivity

/-! ### Saturation (R230) -/

theorem toInt_intMin_of_pos {w : Nat} (hw : 0 < w) : (BitVec.intMin w).toInt = -2 ^ (w - 1) := by
  rw [BitVec.toInt_intMin, Nat.mod_eq_of_lt (Nat.pow_lt_pow_right (by decide) (Nat.sub_one_lt_of_lt hw))]
  simp

/-- The integer an infinity is converted to. -/
theorem toInt_rangeEnd {w : Nat} (hw : 0 < w) (neg : Bool) :
    (if neg then BitVec.intMin w else BitVec.intMax w).toInt = if neg then -2 ^ (w - 1) else 2 ^ (w - 1) - 1 := by
  cases neg with
  | false => exact BitVec.toInt_intMax
  | true => exact toInt_intMin_of_pos hw

theorem toInt_saturate {w : Nat} (hw : 0 < w) (n : Int) :
    (saturate w n).toInt = max (-2 ^ (w - 1)) (min (2 ^ (w - 1) - 1) n) := by
  have hpos : (0 : Int) < 2 ^ (w - 1) := by positivity
  unfold saturate
  split
  · next hover =>
    rw [BitVec.toInt_intMax]
    omega
  split
  · next hunder =>
    rw [toInt_intMin_of_pos hw]
    omega
  · rw [BitVec.toInt_ofInt_eq_self hw (by omega) (by omega)]
    omega

/-! ### The two roundings to an integer (R232, R233) -/

theorem signedQuanta_div_two_pow (neg : Bool) (m k : Nat) :
    signedQuanta neg (m / 2 ^ k) = (signedQuanta neg m).tdiv (2 ^ k) := by
  cases neg <;> simp [signedQuanta, Int.neg_tdiv]

/-- The nearest whole number is at most half a divisor away, and even when it is as far as that: the whole numbers on the
two sides of the quotient are no nearer, and they are one divisor apart. -/
theorem nearestEven_half {d : Nat} (hd : 0 < d) (n : Nat) :
    2 * ((nearestEven n d * d : Nat) - (n : Int)).natAbs ≤ d ∧
      (2 * ((nearestEven n d * d : Nat) - (n : Int)).natAbs = d → nearestEven n d % 2 = 0) := by
  have hn : n / d * d + n % d = n := Nat.div_add_mod' n d
  have hrem : n % d < d := Nat.mod_lt n hd
  have hbelow := nearestEven_nearest (n := n) hd (n / d)
  have habove := nearestEven_nearest (n := n) hd (n / d + 1)
  rw [Nat.succ_mul] at habove
  generalize n / d * d = below, nearestEven n d * d = chosen, n / d = k, n % d = rest at *
  omega

theorem natAbs_signedQuanta_sub (neg : Bool) (r k m : Nat) :
    (signedQuanta neg r * 2 ^ k - signedQuanta neg m).natAbs = ((r * 2 ^ k : Nat) - (m : Int)).natAbs := by
  cases neg with
  | false => simp [signedQuanta]
  | true =>
    rw [← Int.natAbs_neg]
    simp only [signedQuanta, if_true]
    congr 1
    push_cast
    ring

theorem signedQuanta_even {n : Nat} (h : n % 2 = 0) (neg : Bool) : signedQuanta neg n % 2 = 0 := by
  cases neg <;> simp only [signedQuanta, Bool.false_eq_true, if_true, if_false] <;> omega

namespace FloatFormat

variable {w : Nat} {F : FloatFormat w}

theorem truncatedTo_toIntTrunc (hw : 0 < w) (x : BitVec w) :
    TruncatedTo (w - 1) F.shift (F.value x) (F.toIntTrunc x).toInt := by
  unfold toIntTrunc toIntWith
  cases F.value x with
  | nan => exact BitVec.toInt_zero
  | inf neg => exact toInt_rangeEnd hw neg
  | fin neg q =>
    rw [TruncatedTo, ← signedQuanta_div_two_pow]
    exact toInt_saturate hw _

theorem nearestIntTo_toIntNearest (hw : 0 < w) (x : BitVec w) :
    NearestIntTo (w - 1) F.shift (F.value x) (F.toIntNearest x).toInt := by
  unfold toIntNearest toIntWith
  cases F.value x with
  | nan => exact BitVec.toInt_zero
  | inf neg => exact toInt_rangeEnd hw neg
  | fin neg q =>
    obtain ⟨hle, htie⟩ := nearestEven_half (Nat.two_pow_pos F.shift) q
    rw [← natAbs_signedQuanta_sub neg] at hle htie
    exact ⟨_, toInt_saturate hw _, hle, fun heq => signedQuanta_even (htie heq) neg⟩

/-! ### Integers as floats (R230) -/

theorem ofInt_correct (hF : F.Proper) (n : Int) :
    F.sign (F.ofInt n) = decide (n < 0) ∧ F.Nearest (n.natAbs * 2 ^ F.shift) 1 (F.mag (F.ofInt n)) :=
  round_correct hF _ _ Nat.one_pos

/-! ### Exact results (R152) -/

theorem value_eq_fin_iff {x : BitVec w} {neg : Bool} {q : Nat} :
    F.value x = .fin neg q ↔ F.mag x < F.infMag ∧ F.sign x = neg ∧ F.quanta (F.mag x) = q := by
  unfold value
  split
  · next h => simp [h]
  split
  · next h _ => simp [h]
  · next h _ => simp [h]

/-- Only the magnitude itself is nearest to its own quanta. -/
theorem Nearest.eq_of_quanta {mag d r : Nat} (hd : 0 < d) (hmag : mag ≤ F.infMag)
    (h : F.Nearest (F.quanta mag * d) d r) : r = mag := by
  obtain ⟨-, hnear⟩ := h
  obtain ⟨hle, -⟩ := hnear mag hmag
  have hexact : F.quanta r * d = F.quanta mag * d := by
    unfold distance at hle
    omega
  exact quanta_strictMono.injective (Nat.eq_of_mul_eq_mul_right hd hexact)

theorem round_quanta (hF : F.Proper) (neg : Bool) {mag d : Nat} (hd : 0 < d) (hmag : mag ≤ F.infMag) :
    F.round neg (F.quanta mag * d) d = F.pack neg mag := by
  rw [round, (nearest_roundMag hF hd).eq_of_quanta hd hmag]

theorem value_pack (hF : F.Proper) (neg : Bool) {mag : Nat} (hmag : mag < F.infMag) :
    F.value (F.pack neg mag) = .fin neg (F.quanta mag) := by
  have hlt : mag < 2 ^ (w - 1) := hmag.trans (infMag_lt hF)
  rw [value_of_mag_lt (by rwa [mag_pack hF hlt]), mag_pack hF hlt, sign_pack hF hlt]

/-- Every whole number of at most `fracBits + 1` bits, shifted left, is a number of quanta. -/
theorem exists_quanta_eq {a : Nat} (ha : a < 2 * 2 ^ F.fracBits) (e : Nat) : ∃ mag, F.quanta mag = a * 2 ^ e := by
  induction e generalizing a with
  | zero =>
    exact ⟨_, quanta_spaced (.inl rfl) ha.le⟩
  | succ e ih =>
    rcases Nat.lt_or_ge a (2 ^ F.fracBits) with hsmall | hlarge
    · obtain ⟨mag, hmag⟩ := ih (a := 2 * a) (by omega)
      exact ⟨mag, by rw [hmag, Nat.pow_succ']; ring⟩
    · exact ⟨_, quanta_spaced (.inr hlarge) ha.le⟩

theorem quanta_infMag (h : F.maxExp ≠ 0) : F.quanta F.infMag = 2 ^ F.fracBits * 2 ^ (F.maxExp - 1) := by
  have hq := quanta_fields (F := F) F.maxExp (Nat.two_pow_pos F.fracBits)
  rwa [Nat.add_zero, Nat.add_zero, if_neg h] at hq

end FloatFormat

/-! ### Narrowing and widening (R237, R238) -/

section Convert

variable {d x : Dword} {y : Word} {neg : Bool} {q : Nat}

theorem narrow_of_nan (z : Bool) (h : f64.value x = .nan) : narrow z d x = f32.quietNaN d := by
  simp only [narrow, h]

theorem narrow_of_inf (z : Bool) (h : f64.value x = .inf neg) : narrow z d x = f32.infinity neg := by
  simp only [narrow, h]

theorem narrow_of_fin (z : Bool) (h : f64.value x = .fin neg q) :
    narrow z d x = f32.flush z (f32.round neg q (2 ^ 925)) := by
  simp only [narrow, h, shift_gap]

theorem widen_of_nan (h : f32.value y = .nan) : widen d y = f64.quietNaN d := by
  simp only [widen, h]

theorem widen_of_inf (h : f32.value y = .inf neg) : widen d y = f64.infinity neg := by
  simp only [widen, h]

theorem widen_of_fin (h : f32.value y = .fin neg q) : widen d y = f64.round neg (q * 2 ^ 925) 1 := by
  simp only [widen, h, shift_gap]

end Convert

/-- The finite quanta of binary32, in those of binary64, are quanta of a finite binary64: 24 significant bits fit in 53,
and the exponents are far from their end. -/
theorem exists_f64_quanta {mag : Nat} (h : mag < f32.infMag) :
    ∃ wide, wide < f64.infMag ∧ f64.quanta wide = f32.quanta mag * 2 ^ 925 := by
  obtain ⟨e, a, rfl, hlow, hhigh⟩ := FloatFormat.exists_spaced (F := f32) mag
  have hfit : a < 2 * 2 ^ f64.fracBits := hhigh.trans (by decide)
  obtain ⟨wide, hwide⟩ := FloatFormat.exists_quanta_eq hfit (e + 925)
  have hquanta : f64.quanta wide = f32.quanta (e * 2 ^ f32.fracBits + a) * 2 ^ 925 := by
    rw [hwide, FloatFormat.quanta_spaced hlow hhigh.le, pow_add, Nat.mul_assoc]
  refine ⟨wide, (FloatFormat.quanta_strictMono (F := f64)).lt_iff_lt.mp ?_, hquanta⟩
  calc f64.quanta wide = f32.quanta (e * 2 ^ f32.fracBits + a) * 2 ^ 925 := hquanta
    _ < f32.quanta f32.infMag * 2 ^ 925 :=
      Nat.mul_lt_mul_of_pos_right (FloatFormat.quanta_strictMono (F := f32) h) two_pow_gap_pos
    _ < f64.quanta f64.infMag := by
      rw [FloatFormat.quanta_infMag (by decide), FloatFormat.quanta_infMag (by decide), ← pow_add, ← pow_add, ← pow_add]
      exact Nat.pow_lt_pow_right (by decide) (by decide)

/-- R238: widening is exact. -/
theorem value_widen (d : Dword) {x : Word} {neg : Bool} {q : Nat} (h : f32.value x = .fin neg q) :
    f64.value (widen d x) = .fin neg (q * 2 ^ 925) := by
  obtain ⟨hmag, -, rfl⟩ := FloatFormat.value_eq_fin_iff.mp h
  obtain ⟨wide, hlt, hwide⟩ := exists_f64_quanta hmag
  have hexact := FloatFormat.round_quanta f64_proper neg Nat.one_pos hlt.le
  rw [Nat.mul_one] at hexact
  rw [widen_of_fin h, ← hwide, hexact, FloatFormat.value_pack f64_proper neg hlt]

/-- R237: narrowing undoes widening, but for the flush. -/
theorem narrow_widen (z : Bool) (d e : Dword) {x : Word} (h : f32.isNaN x = false) :
    narrow z d (widen e x) = f32.flush z x := by
  have hpack := FloatFormat.pack_sign_mag f32_proper x
  rcases FloatFormat.value_cases h with ⟨hmag, hvalue⟩ | ⟨hmag, hvalue⟩
  · rw [narrow_of_fin z (value_widen e hvalue),
      FloatFormat.round_quanta f32_proper _ two_pow_gap_pos hmag.le, hpack]
  · have hnot := FloatFormat.not_subnormal_infinity f32_proper (f32.sign x)
    rw [hmag] at hpack
    rw [FloatFormat.infinity, hpack] at hnot
    rw [widen_of_inf hvalue, narrow_of_inf z (FloatFormat.value_infinity f64_proper _), FloatFormat.infinity, hpack,
      FloatFormat.flush_of_not_subnormal hnot]

/-- Settles O51: narrowing is one rounding, widening has nothing to round, and so the first undoes the second. -/
theorem narrowRoundsAndUndoesWiden : Obligations.NarrowRoundsAndUndoesWiden := by
  refine ⟨?narrowFinite, ?narrowSpecial, ?widenAll, ?roundTrip⟩
  case narrowFinite =>
    intro d x neg q h
    rw [narrow_of_fin false h]
    exact FloatFormat.round_correct f32_proper neg q two_pow_gap_pos
  case narrowSpecial =>
    intro z d x
    refine ⟨fun _ => narrow_of_inf z, fun h => ?_⟩
    rw [narrow_of_nan z h]
    exact FloatFormat.quiet_quietNaN f32_proper d
  case widenAll =>
    intro d x
    refine ⟨fun _ _ => value_widen d, fun _ => widen_of_inf, fun h => ?_⟩
    rw [widen_of_nan h]
    exact FloatFormat.quiet_quietNaN f64_proper d
  case roundTrip =>
    intro d e x h
    refine ⟨narrow_widen false d e h, fun hsub => ?_, fun hsub => ?_⟩
    · rw [narrow_widen true d e h, FloatFormat.flush_true_of_subnormal hsub]
    · rw [narrow_widen true d e h, FloatFormat.flush_of_not_subnormal hsub]

/-! ### The commands -/

/-- Settles O33: the lanes of the two vectors as the commands build them, each NaN with the bits drawn for its lane. -/
theorem narrowWidenResult : Obligations.NarrowWidenResult := by
  intro vd va s
  refine ⟨writesRegister_writesReg s vd ⟨fun k hk => ?_, ?_, ?_⟩, writesRegister_writesReg s vd fun k hk => ?_⟩
  · match k with
    | 0 => exact ⟨s.draw 0, lane_vec32_0 _ _ _ _⟩
    | 1 => exact ⟨s.draw 1, lane_vec32_1 _ _ _ _⟩
  · exact lane_vec32_2 _ _ _ _
  · exact lane_vec32_3 _ _ _ _
  · exact ⟨s.draw k, lane_gen64 _ hk⟩

/-- Settles O31: each lane is one rounding of the integer's quanta, which the flush mode does not touch. -/
theorem intToFloatResult : Obligations.IntToFloatResult := by
  intro vd va s
  refine ⟨writesRegister_writesReg s vd fun k hk => ?_, writesRegister_writesReg s vd fun k hk => ?_⟩
  · rw [lane_gen32 _ hk, ← f32_shift]
    exact FloatFormat.ofInt_correct f32_proper _
  · rw [lane_gen64 _ hk, ← f64_shift]
    exact FloatFormat.ofInt_correct f64_proper _

/-- Settles O32: each lane is the truncated or the nearest integer, saturated. -/
theorem floatToIntResult : Obligations.FloatToIntResult := by
  intro vd va s
  refine ⟨?truncI32, ?nearestI32, ?truncI64, ?nearestI64⟩
  case truncI32 =>
    refine writesRegister_writesReg s vd fun k hk => ?_
    rw [lane_gen32 _ hk, ← f32_shift]
    exact FloatFormat.truncatedTo_toIntTrunc (by decide) _
  case nearestI32 =>
    refine writesRegister_writesReg s vd fun k hk => ?_
    rw [lane_gen32 _ hk, ← f32_shift]
    exact FloatFormat.nearestIntTo_toIntNearest (by decide) _
  case truncI64 =>
    refine writesRegister_writesReg s vd fun k hk => ?_
    rw [lane_gen64 _ hk, ← f64_shift]
    exact FloatFormat.truncatedTo_toIntTrunc (by decide) _
  case nearestI64 =>
    refine writesRegister_writesReg s vd fun k hk => ?_
    rw [lane_gen64 _ hk, ← f64_shift]
    exact FloatFormat.nearestIntTo_toIntNearest (by decide) _

end Sys2Proof.Machine
end

section
/-! PROOFS. ImpulseLoader (44_impulse_loader.md R251 to R262): the source and the lengths of a load, the words of IMP
after one, what LOADIMP comes to on either port, and the results of LOADIMP. -/

namespace Sys2Proof.Machine

open Sys2Proof.Config

/-! ### The source, its lengths and its samples (R252 to R256) -/

section Sources

variable {dir : Directory} {id : Word} {src : Source}

theorem usable_iff (src : Source) : usable src = true ↔ src.channels ≠ 0 ∧ src.format = 0 := by
  simp [usable]

theorem usableSource_eq_some (hsrc : sourceOf dir id = some src) (hchannels : src.channels ≠ 0)
    (hformat : src.format = 0) : usableSource dir id = some src := by
  rw [usableSource, hsrc, Option.filter_some, if_pos ((usable_iff src).mpr ⟨hchannels, hformat⟩)]

theorem usableSource_eq_none (h : ∀ src, sourceOf dir id = some src → src.channels = 0 ∨ src.format ≠ 0) :
    usableSource dir id = none := by
  rw [usableSource, Option.filter_eq_none_iff]
  intro src hsrc husable
  obtain ⟨hchannels, hformat⟩ := (usable_iff src).mp husable
  exact (h src hsrc).elim hchannels (absurd hformat)

/-- Over the integers a negative number of frames behind the offset is clamped to zero (R253). -/
theorem effectiveLength_eq (explicit : Bool) (off req : Word) (src : Source) :
    (effectiveLength explicit off req src : Int) =
      max 0 (min ((src.frames.toNat : Int) - off.toNat)
        (min (if explicit then (req.toNat : Int) else src.frames.toNat) 2044)) := by
  have hmax : impMaxLen = 2044 := rfl
  rw [effectiveLength, wantedLength, hmax]
  cases explicit with
  | true => simp only [if_true]; omega
  | false => simp only [Bool.false_eq_true, if_false]; omega

theorem shortSource_eq (explicit : Bool) (off req : Word) (src : Source) : shortSource explicit off req src =
    (explicit && decide (req ≠ 0) && decide ((src.frames.toNat : Int) - off.toNat < req.toNat)) := by
  rw [Bool.eq_iff_iff]
  simp [shortSource]

/-- The diagnostic of a load is the short-source condition added to the bit it was (R254). -/
theorem setSrcShort_if (d : Diag) (short : Bool) :
    (if short then d.setSrcShort else d) = { d with srcShort := d.srcShort || short } := by
  cases short with
  | true => simp [Diag.setSrcShort]
  | false => simp

theorem length_reversedSamples (src : Source) (off : Word) (len c : Nat) :
    (reversedSamples src off len c).length = len := by
  simp [reversedSamples]

theorem getElem_reversedSamples (src : Source) (off : Word) {len i : Nat} (c : Nat)
    (hi : i < (reversedSamples src off len c).length) :
    (reversedSamples src off len c)[i] = sampleOf src (off.toNat + (len - 1 - i)) c := by
  simp [reversedSamples]

end Sources

/-! ### IMP and its lengths after a load (R256, R257) -/

section Install

variable {s : State} {xs : List Word}

theorem length_le_paddedLength (n : Nat) : n ≤ paddedLength n := by
  rw [paddedLength_eq]
  omega

theorem toNat_installImpulse_impLen (short : xs.length ≤ impMaxLen) :
    (s.installImpulse xs).impLen.toNat = xs.length := by
  have hmax : impMaxLen = 2044 := rfl
  rw [State.installImpulse_impLen, BitVec.toNat_ofNat]
  omega

theorem toNat_installImpulse_impPadLen (short : xs.length ≤ impMaxLen) :
    (s.installImpulse xs).impPadLen.toNat = paddedLength xs.length := by
  have hmax : impMaxLen = 2044 := rfl
  rw [State.installImpulse_impPadLen, BitVec.toNat_ofNat, paddedLength_eq]
  omega

theorem Memory.byte_installImpulse_outside (m : Memory) (short : xs.length ≤ impMaxLen) {a : Nat}
    (ha : a < 0x08000 ∨ 0x0A000 ≤ a) : (m.installImpulse xs).byte a = m.byte a := by
  by_contra hchanged
  obtain ⟨r, rfl, hbase, hlast⟩ := ChangedIn.installImpulse (p := (· = .imp)) rfl short m a hchanged
  have hb : Region.imp.base = 0x8000 := rfl
  have he : Region.imp.last = 0x9FFF := rfl
  omega

/-- Word `i` of the samples stands `i` words behind the padding. -/
theorem Memory.imp_installImpulse_sample (m : Memory) (short : xs.length ≤ impMaxLen) {i : Nat} (hi : i < xs.length) :
    (m.installImpulse xs).imp (paddedLength xs.length - xs.length + i) = xs[i] := by
  have hb : Region.imp.base = 0x8000 := rfl
  have hend : mapEnd = 0x12000 := rfl
  have hmax : impMaxLen = 2044 := rfl
  have hpad := paddedLength_eq xs.length
  rw [Memory.imp, Memory.installImpulse, Nat.mul_add, ← Nat.add_assoc]
  exact Memory.read32_writeSamples _ xs i hi (by omega)

/-- A load rewrites IMP whole (R251): the words it leaves are those of the samples, whatever the memory was. -/
theorem Memory.imp_installImpulse_congr (m m' : Memory) (short : xs.length ≤ impMaxLen) {k : Nat} (hk : k < 2048) :
    (m.installImpulse xs).imp k = (m'.installImpulse xs).imp k := by
  have hle := length_le_paddedLength xs.length
  by_cases hpad : k < paddedLength xs.length - xs.length ∨ paddedLength xs.length ≤ k
  · rw [imp_installImpulse_padding m hk hpad, imp_installImpulse_padding m' hk hpad]
  · obtain ⟨i, rfl⟩ := Nat.exists_eq_add_of_le (Nat.le_of_not_lt fun hlow => hpad (.inl hlow))
    have hi : i < xs.length := by omega
    rw [imp_installImpulse_sample m short hi, imp_installImpulse_sample m' short hi]

/-- A load on port C writes IMP, the two lengths, the diagnostics, the error record of the port and the response. -/
theorem complete_installImpulse (hp : s.port = .c) (d : Diag) (xs : List Word) (x : Word) :
    ((s.setDiag d).installImpulse xs).complete x =
      { s with
        mem := s.mem.installImpulse xs
        diag := d
        impLen := BitVec.ofNat 32 xs.length
        impPadLen := BitVec.ofNat 32 (paddedLength xs.length)
        status := s.status.record .c .ok
        output := .response .ok x } := by
  rw [← hp]
  rfl

end Install

/-! ### The load of a source (R253 to R257) -/

section Load

variable {explicit : Bool} {off req chsel : Word} {src : Source}

theorem toNat_loadFrom_impLen (explicit : Bool) (off req chsel : Word) (src : Source) (s : State) :
    (loadFrom explicit off req chsel src s).impLen.toNat = effectiveLength explicit off req src := by
  rw [loadFrom, toNat_installImpulse_impLen (reversedSamples_short ..), length_reversedSamples]

theorem toNat_loadFrom_impPadLen (explicit : Bool) (off req chsel : Word) (src : Source) (s : State) :
    (loadFrom explicit off req chsel src s).impPadLen.toNat = paddedLength (effectiveLength explicit off req src) := by
  rw [loadFrom, toNat_installImpulse_impPadLen (reversedSamples_short ..), length_reversedSamples]

theorem imp_loadFrom_sample (s : State) {i : Nat} (hi : i < effectiveLength explicit off req src) :
    (loadFrom explicit off req chsel src s).mem.imp
        (paddedLength (effectiveLength explicit off req src) - effectiveLength explicit off req src + i) =
      sampleOf src (off.toNat + (effectiveLength explicit off req src - 1 - i)) (channelIndex chsel src) := by
  have hsample := Memory.imp_installImpulse_sample s.mem (reversedSamples_short explicit off req chsel src)
    (i := i) (by rwa [length_reversedSamples])
  rwa [getElem_reversedSamples, length_reversedSamples] at hsample

theorem imp_loadFrom_padding (s : State) {k : Nat} (hk : k < 2048)
    (hpad : k < paddedLength (effectiveLength explicit off req src) - effectiveLength explicit off req src ∨
      paddedLength (effectiveLength explicit off req src) ≤ k) :
    (loadFrom explicit off req chsel src s).mem.imp k = 0 :=
  Memory.imp_installImpulse_padding s.mem hk (by rwa [length_reversedSamples])

theorem loadFrom_diag (explicit : Bool) (off req chsel : Word) (src : Source) (s : State) :
    (loadFrom explicit off req chsel src s).diag = { s.diag with
      srcShort := s.diag.srcShort ||
        (explicit && decide (req ≠ 0) && decide ((src.frames.toNat : Int) - off.toNat < req.toNat)) } := by
  rw [← shortSource_eq, ← setSrcShort_if]
  rfl

end Load

/-! ### What LOADIMP comes to (R251, R252, R258; 60_exceptions.md R354) -/

section Command

variable {explicit : Bool} {id off req chsel : Word} {s : State}

theorem exec_loadimp (hp : s.port = .c) :
    exec (.loadimp explicit id off req chsel) s = .next (loadImpulse explicit id off req chsel s) :=
  onPort_accepted hp _

theorem exec_loadimp_refused (hp : s.port = .p) :
    exec (.loadimp explicit id off req chsel) s = .next (s.refused .port) :=
  onPort_refused (by simp [hp]) _

theorem loadImpulse_of_inert (hinert : s.status.inert = true) :
    loadImpulse explicit id off req chsel s = s.complete 0 := if_pos hinert

theorem loadImpulse_of_unusable (active : s.status.inert = false) (hsrc : usableSource s.sources id = none) :
    loadImpulse explicit id off req chsel s = (loadNothing s).complete 0 := by
  simp [loadImpulse, active, hsrc]

theorem loadImpulse_of_usable {src : Source} (active : s.status.inert = false)
    (hsrc : usableSource s.sources id = some src) :
    loadImpulse explicit id off req chsel s =
      (loadFrom explicit off req chsel src s).complete (loadFrom explicit off req chsel src s).impLen := by
  simp [loadImpulse, active, hsrc]

/-- The samples LOADIMP puts into IMP: a function of its operands and of the sources (R262). -/
def loadedSamples (explicit : Bool) (id off req chsel : Word) (dir : Directory) : List Word :=
  (usableSource dir id).elim [] fun src =>
    reversedSamples src off (effectiveLength explicit off req src) (channelIndex chsel src)

theorem loadedSamples_short (explicit : Bool) (id off req chsel : Word) (dir : Directory) :
    (loadedSamples explicit id off req chsel dir).length ≤ impMaxLen := by
  unfold loadedSamples
  cases usableSource dir id with
  | none => exact Nat.zero_le _
  | some src => exact reversedSamples_short ..

theorem loadImpulse_installs (explicit : Bool) (id off req chsel : Word) (active : s.status.inert = false) :
    ∃ d x, loadImpulse explicit id off req chsel s =
      ((s.setDiag d).installImpulse (loadedSamples explicit id off req chsel s.sources)).complete x := by
  unfold loadedSamples
  cases hsrc : usableSource s.sources id with
  | none => exact ⟨_, _, loadImpulse_of_unusable active hsrc⟩
  | some src => exact ⟨_, _, loadImpulse_of_usable active hsrc⟩

end Command

/-! ### The statements -/

/-- Settles O37: the three ways LOADIMP ends without samples. -/
theorem loadimpWithoutSource : Obligations.LoadimpWithoutSource := by
  intro explicit id off req chsel s
  refine ⟨fun hp => exec_loadimp_refused hp, fun hp hinert => ?inert, fun hp active hnone => ?unusable⟩
  case inert => rw [exec_loadimp hp, loadImpulse_of_inert hinert]; rfl
  case unusable =>
    rw [exec_loadimp hp, loadImpulse_of_unusable active (usableSource_eq_none hnone)]
    refine ⟨_, rfl, fun k hk => ?_, fun a ha => ?_, complete_installImpulse hp s.diag.setSrcInvalid [] 0⟩
    · exact Memory.imp_installImpulse_padding s.mem hk (.inr (Nat.zero_le k))
    · exact Memory.byte_installImpulse_outside s.mem (Nat.zero_le _) ha

/-- Settles O36: the load fixes the two lengths, and each clause is a fact about the load of that source. -/
theorem loadimpResult : Obligations.LoadimpResult := by
  intro explicit id off req chsel s src hp active hsrc hchannels hformat
  rw [exec_loadimp hp, loadImpulse_of_usable active (usableSource_eq_some hsrc hchannels hformat)]
  refine ⟨_, rfl, ?_⟩
  intro avail want len pad
  have hlen : len = effectiveLength explicit off req src := toNat_loadFrom_impLen explicit off req chsel src s
  have hpadded : (loadFrom explicit off req chsel src s).impPadLen.toNat = paddedLength len :=
    hlen ▸ toNat_loadFrom_impPadLen explicit off req chsel src s
  have hpad : pad = paddedLength len - len := congrArg (· - len) hpadded
  refine ⟨?length, hpadded, ?samples, ?padding, ?frame, ?diag, complete_installImpulse hp _ _ _⟩
  case length => rw [hlen, effectiveLength_eq]
  case samples =>
    intro i hi
    rw [hpad]
    rw [hlen] at hi ⊢
    exact imp_loadFrom_sample s hi
  case padding =>
    intro k hk hout
    have hle := length_le_paddedLength len
    have hout' : k < paddedLength len - len ∨ paddedLength len ≤ k := by omega
    rw [hlen] at hout'
    exact imp_loadFrom_padding s hk hout'
  case frame => exact fun a ha => Memory.byte_installImpulse_outside s.mem (reversedSamples_short ..) ha
  case diag => exact loadFrom_diag explicit off req chsel src s

/-- Settles O46: both runs install the same samples, and IMP and the lengths are a function of these. -/
theorem loadimpIsIdempotent : Obligations.LoadimpIsIdempotent := by
  intro explicit id off req chsel s s' t t' hp hp' active active' hsources h h'
  obtain ⟨d, x, hload⟩ := loadImpulse_installs explicit id off req chsel active
  obtain ⟨d', x', hload'⟩ := loadImpulse_installs explicit id off req chsel active'
  rw [exec_loadimp hp, hload] at h
  rw [exec_loadimp hp', hload', ← hsources] at h'
  cases h
  cases h'
  exact ⟨fun k hk => Memory.imp_installImpulse_congr s.mem s'.mem (loadedSamples_short ..) hk, rfl, rfl⟩

end Sys2Proof.Machine
end

section
/-! PROOFS. HistoryRing (45_history_ring.md R271 to R278): the cursor, the window descriptor and the words of HIST after
a block, what PROCESS makes of the ring, and the stream the ring holds. -/

namespace Sys2Proof.Machine

open Sys2Proof.Config

/-! ### The input block (47_perform_dispatch.md R325 to R327) -/

/-- The block PROCESS ingests: its input block, read in the scoped numeric mode (R326). -/
def State.flushedInput (s : State) : List Word := (s.setFtz true).inputBlock

theorem length_flushedInput (s : State) : s.flushedInput.length = s.cfgBlock.toNat := by
  simp [State.flushedInput, State.inputBlock]

theorem getElem_flushedInput (s : State) {i : Nat} (hi : i < s.flushedInput.length) :
    s.flushedInput[i] = (s.setFtz true).inputSample i := by
  simp [State.flushedInput, State.inputBlock]

theorem isInputSample_flushed (s : State) (i : Nat) : IsInputSample s i ((s.setFtz true).inputSample i) := by
  rw [IsInputSample, State.inputSample, State.setFtz_status]
  cases s.status.width with
  | native => rfl
  | hostDouble => exact ⟨_, rfl⟩

theorem isInputSample_flushedInput (s : State) {i : Nat} (hi : i < s.flushedInput.length) :
    IsInputSample s i s.flushedInput[i] := by
  rw [getElem_flushedInput]
  exact isInputSample_flushed s i

/-! ### The ring after a block (R271, R272) -/

section Ingest

variable {s : State} {xs : List Word}

/-- The mirrored write leaves every word outside its two ranges alone. -/
theorem Memory.hist_mirrorWrite_outside (m : Memory) {q i : Nat} (hlow : i < q ∨ q + xs.length ≤ i)
    (hhigh : i < q + 4096 ∨ q + 4096 + xs.length ≤ i) : (m.mirrorWrite xs q).hist i = m.hist i := by
  have hb : Region.hist.base = 0 := rfl
  have hh : histHalf = 4096 := rfl
  exact Memory.read32_congr fun c _ _ => Memory.byte_mirrorWrite_outside m xs q (by omega) (by omega)

/-- For a block inside one half of the ring the cursor moves on modulo 4096. -/
theorem nextCursor_eq_mod {p b : Nat} (hfit : p + b ≤ 4096) : nextCursor p b = (p + b) % 4096 := by
  have hh : histHalf = 4096 := rfl
  unfold nextCursor
  split
  · omega
  · omega

theorem toNat_ingest_inPos (xs : List Word) (hfit : s.inPos.toNat + s.cfgBlock.toNat ≤ 4096) :
    (s.ingest xs).inPos.toNat = (s.inPos.toNat + s.cfgBlock.toNat) % 4096 := by
  rw [State.ingest_inPos, nextCursor_eq_mod hfit, BitVec.toNat_ofNat]
  omega

end Ingest

/-! ### What PROCESS makes of the ring (47_perform_dispatch.md R325, R332) -/

section Process

variable {s : State}

theorem exec_process (hp : s.port = .p) (hc : s.status.configured = true) :
    exec .process s = .next (s.processBlock.complete 0) :=
  (onPort_accepted hp _).trans (if_pos hc)

/-- With `INERT` clear PROCESS does to HIST, IMP and the status registers what Ingest does. -/
theorem processBlock_of_active (active : s.status.inert = false) :
    EngineKept (s.ingest s.flushedInput) s.processBlock := by
  have hrun : s.processBlock = ((s.setFtz true).convolveBlock).setFtz s.ftz := by
    simp [State.processBlock, State.withFlush, State.runBlock, active]
  rw [hrun]
  exact (EngineKept.setFtz (s.ingest s.flushedInput) true).trans ((EngineKept.writeOutput _ _).trans (.setFtz _ _))

/-- With `INERT` set it does nothing to them. -/
theorem processBlock_of_inert (hinert : s.status.inert = true) : EngineKept s s.processBlock := by
  have hrun : s.processBlock = ((s.setFtz true).writeSilence).setFtz s.ftz := by
    simp [State.processBlock, State.withFlush, State.runBlock, hinert]
  rw [hrun]
  exact (EngineKept.setFtz s true).trans ((EngineKept.writeSilence _).trans (.setFtz _ _))

/-- The block ingested fits into one half of the ring (R274). -/
theorem Inv.flushedInput_fits (hs : Inv s) (hc : s.status.configured = true) :
    s.inPos.toNat + s.flushedInput.length ≤ 4096 := by
  obtain ⟨-, -, -, hfit, -⟩ := hs.configured hc
  rwa [length_flushedInput]

end Process

/-- Settles O39: PROCESS leaves the ring as Ingest does, and each clause is a fact about the mirrored write, the cursor
or the window descriptor. -/
theorem processIngestsTheBlock : Obligations.ProcessIngestsTheBlock := by
  intro s hs hp hc active
  refine ⟨_, exec_process hp hc, ?_⟩
  intro p b
  have hkept : EngineKept (s.ingest s.flushedInput) (s.processBlock.complete 0) :=
    (processBlock_of_active active).trans (.complete _ 0)
  have hlen : s.flushedInput.length = b := length_flushedInput s
  have hfit : p + s.flushedInput.length ≤ 4096 := hs.flushedInput_fits hc
  have hfit' : p + b ≤ 4096 := hlen ▸ hfit
  have hcursor : p < 4096 := hs.cursor
  have hshort := hs.length
  have hpadded := hs.padded
  have hh : histHalf = 4096 := rfl
  refine ⟨fun i hi => ?written, fun i hi hout => ?frame, ?cursor, ?windowStart, ?windowLength⟩
  case written =>
    have hi' : i < s.flushedInput.length := hlen ▸ hi
    obtain ⟨hlow, hhigh⟩ := Memory.hist_mirrorWrite s.mem p s.flushedInput i hi' hfit
    refine ⟨s.flushedInput[i], isInputSample_flushedInput s hi', ?_, ?_⟩
    · exact (hkept.hist (by omega)).trans hlow
    · rw [Nat.add_right_comm]
      exact (hkept.hist (by omega)).trans hhigh
  case frame =>
    constructor
    · exact (hkept.hist (by omega)).trans (Memory.hist_mirrorWrite_outside s.mem (by omega) (by omega))
    · exact (hkept.hist (by omega)).trans (Memory.hist_mirrorWrite_outside s.mem (by omega) (by omega))
  case cursor =>
    rw [hkept.inPos, toNat_ingest_inPos _ hfit']
    split <;> omega
  case windowStart =>
    rw [hkept.winStart, State.ingest_winStart, BitVec.toNat_ofNat]
    omega
  case windowLength =>
    rw [hkept.winLen, State.ingest_winLen, BitVec.toNat_ofNat]
    omega

/-! ### The stream (R278) -/

section Stream

variable {xs ys : List Word}

theorem paddedStream_nil (k : Nat) : paddedStream [] k = 0 := by
  simp [paddedStream]

/-- Samples appended do not change the earlier ones. -/
theorem paddedStream_append_left {k : Nat} (hk : k < 4096 + xs.length) :
    paddedStream (xs ++ ys) k = paddedStream xs k := by
  unfold paddedStream
  split
  · rfl
  · exact List.getD_append xs ys 0 _ (by omega)

theorem paddedStream_append_right (xs ys : List Word) (j : Nat) :
    paddedStream (xs ++ ys) (xs.length + 4096 + j) = ys.getD j 0 := by
  rw [paddedStream, if_neg (by omega), List.getD_append_right _ _ _ _ (by omega)]
  congr 1
  omega

end Stream

/-! ### The stream the ring holds (R278) -/

namespace RingHolds

variable {s t : State} {xs : List Word}

/-- A ring of zeros with its cursor at 0 holds the empty stream. -/
theorem empty (hpos : s.inPos = 0) (hzero : ∀ i, i < 4096 → s.mem.hist i = 0) : RingHolds s [] where
  cursor := by simp [hpos]
  samples := fun k _ => by rw [hzero _ (Nat.mod_lt _ (by decide)), paddedStream_nil]

/-- The stream is read off the cursor and the lower half of HIST. -/
theorem congr (h : RingHolds s xs) (hpos : t.inPos = s.inPos) (hhist : ∀ i, i < 4096 → t.mem.hist i = s.mem.hist i) :
    RingHolds t xs where
  cursor := by rw [hpos, h.cursor]
  samples := fun k hk => by rw [hhist _ (Nat.mod_lt _ (by decide)), h.samples k hk]

theorem kept (h : RingHolds s xs) (hkept : EngineKept s t) : RingHolds t xs :=
  h.congr hkept.inPos fun _ hi => hkept.hist (by omega)

/-- LOADIMP writes IMP, not HIST. -/
theorem installImpulse (h : RingHolds s xs) {ys : List Word} : RingHolds (s.installImpulse ys) xs :=
  h.congr rfl fun _ hi => Memory.hist_installImpulse s.mem _ (by omega)

/-- Ingest appends its block: the words it overwrites are the oldest ones, and the others stand as before. -/
theorem ingest (h : RingHolds s xs) {block : List Word} (hlen : block.length = s.cfgBlock.toNat)
    (hfit : s.inPos.toNat + block.length ≤ 4096) : RingHolds (s.ingest block) (xs ++ block) where
  cursor := by
    rw [toNat_ingest_inPos _ (hlen ▸ hfit), ← hlen, h.cursor, List.length_append, Nat.mod_add_mod]
  samples := by
    intro k hk
    have hcursor := h.cursor
    rw [List.length_append, State.ingest_mem]
    by_cases hold : block.length + k < 4096
    · rw [Memory.hist_mirrorWrite_outside s.mem (by omega) (by omega), Nat.add_assoc, h.samples _ hold,
        paddedStream_append_left (by omega)]
    · obtain ⟨j, hj⟩ := Nat.exists_eq_add_of_le (Nat.le_of_not_lt hold)
      have hjlen : j < block.length := by omega
      have hindex : (xs.length + block.length + k) % 4096 = s.inPos.toNat + j := by omega
      obtain ⟨hword, -⟩ := Memory.hist_mirrorWrite s.mem s.inPos.toNat block j hjlen hfit
      rw [hindex, hword, Nat.add_assoc, hj, ← Nat.add_assoc, paddedStream_append_right,
        List.getD_eq_getElem _ _ hjlen]

/-- Under the mirror a word of either half is the sample its index modulo 4096 names (R35 (a), R276). -/
theorem sample (h : RingHolds s xs) (hs : Inv s) {i k : Nat} (hi : i < 8192) (hk : k < 4096)
    (hindex : i % 4096 = (xs.length + k) % 4096) : s.mem.hist i = paddedStream xs (xs.length + k) := by
  rw [← h.samples k hk, ← hindex]
  by_cases hlow : i < 4096
  · rw [Nat.mod_eq_of_lt hlow]
  · rw [hs.mirror _ (Nat.mod_lt i (by decide))]
    congr 1
    omega

end RingHolds

/-! ### The commands and the steps (R278; 60_exceptions.md R365) -/

section Commands

variable {s t : State} {xs : List Word}

theorem hist_configure (h : s.status.inert = false ∨ Inv s) (width : SampleWidth) (block maxBlock : BitVec 16) {i : Nat}
    (hi : i < 8192) : (s.configure width block maxBlock).mem.hist i = 0 := by
  rcases h with active | hs
  · rw [State.configure_mem, if_neg (by simp [active])]
    exact Memory.hist_zeroRegion s.mem hi
  · exact hs.hist_configure width block maxBlock hi

/-- A CONFIG that succeeds starts an empty stream. -/
theorem ringHolds_of_config {width : SampleWidth} {block maxBlock : BitVec 16} (hs : s.status.inert = false ∨ Inv s)
    (h : exec (.config width block maxBlock) s = .next t) (hok : t.output = .response .ok 0) : RingHolds t [] := by
  rcases execConfig_next h with ⟨-, -, rfl⟩ | ⟨-, -, rfl⟩ | ⟨-, rfl⟩
  · exact .empty rfl fun i hi => hist_configure hs width block maxBlock (by omega)
  · simp at hok
  · simp at hok

/-- A PROCESS that succeeds with `INERT` clear appends its input block. -/
theorem ringHolds_of_process (hs : Inv s) (active : s.status.inert = false) (hring : RingHolds s xs)
    (h : exec .process s = .next t) (hok : t.output = .response .ok 0) :
    s.inPos.toNat + s.flushedInput.length ≤ 4096 ∧ RingHolds t (xs ++ s.flushedInput) := by
  rcases execProcess_next h with ⟨-, hc, rfl⟩ | ⟨-, -, rfl⟩ | ⟨-, rfl⟩
  · have hfit := hs.flushedInput_fits hc
    have hkept : EngineKept (s.ingest s.flushedInput) (s.processBlock.complete 0) :=
      (processBlock_of_active active).trans (.complete _ 0)
    exact ⟨hfit, (hring.ingest (length_flushedInput s) hfit).kept hkept⟩
  · simp at hok
  · simp at hok

/-- With `INERT` set PROCESS appends nothing. -/
theorem ringHolds_of_inert_process (hinert : s.status.inert = true) (hring : RingHolds s xs)
    (h : exec .process s = .next t) : RingHolds t xs := by
  rcases execProcess_next h with ⟨-, -, rfl⟩ | ⟨-, -, rfl⟩ | ⟨-, rfl⟩
  · exact (hring.kept (processBlock_of_inert hinert)).kept (.complete _ 0)
  · exact hring.kept (.refused s .notConfigured)
  · exact hring.kept (.refused s .port)

theorem ringHolds_of_reset (hreset : s.Resets) (h : step s = .next t) : RingHolds t [] := by
  obtain ⟨rest, hrest⟩ := hreset
  rw [step_takes hrest] at h
  cases h
  exact .empty rfl fun i _ => Memory.hist_nil i

/-- Every command but a CONFIG and a PROCESS that succeed keeps the stream. -/
theorem CommandEffect.ring_kept {i : Instr} (h : CommandEffect s i t) (hring : RingHolds s xs)
    (hok : opcodeOf i = 0x01 ∨ opcodeOf i = 0x03 → t.output ≠ .response .ok 0) : RingHolds t xs := by
  cases h with
  | config width block maxBlock legal => exact absurd rfl (hok (.inl (opcodeOf_config width block maxBlock)))
  | process configured => exact absurd rfl (hok (.inr (by decide)))
  | loadimp explicit id off req chsel x active raised short =>
    have hdiag := hring.kept (.setDiag fun h => raised.allocFail.symm.trans h)
    exact hdiag.installImpulse.kept (.complete _ x)
  | refused i e => exact hring.kept (.refused s e)
  | nop | loadimpInert => exact hring.kept (.complete s 0)
  | clrdiag mask3 => exact (hring.kept (.setDiag Bool.and_elim_left)).kept (.complete _ 0)
  | wrfpm z => exact (hring.kept (.setFtz s z)).kept (.complete _ 0)
  | register vector vd x => exact (hring.kept (.setReg s vd x)).kept (.complete _ 0)
  | store vector x inside => exact (hring.kept (.write128 s x inside)).kept (.complete _ 0)

theorem StepEffect.ring_kept (h : StepEffect s t) (hring : RingHolds s xs) (hreset : ¬ s.Resets)
    (hok : ∀ i, s.Executes i → opcodeOf i = 0x01 ∨ opcodeOf i = 0x03 → t.output ≠ .response .ok 0) :
    RingHolds t xs := by
  cases h with
  | kept hkept => exact hring.kept hkept
  | command served before effect => exact effect.ring_kept (hring.kept before) (hok _ served)
  | reset resets _ => exact absurd resets hreset

end Commands

/-- Settles O42: one lemma for each way a stream starts, grows or is kept; the words behind the block are those of the
ring after it, read in either half. -/
theorem ringHoldsTheStream : Obligations.RingHoldsTheStream := by
  refine ⟨fun _ _ _ _ _ => ringHolds_of_config, ?process, fun _ _ _ => ringHolds_of_inert_process,
    fun _ _ => ringHolds_of_reset, fun _ _ _ hring h => (step_effect h).ring_kept hring⟩
  case process =>
    intro s t xs hs active hring h hok
    obtain ⟨hfit, hring'⟩ := ringHolds_of_process hs active hring h hok
    refine ⟨s.flushedInput, length_flushedInput s, fun i hi => ?sample, hring', fun k hk => ?window⟩
    case sample =>
      rw [List.getD_eq_getElem _ _ hi]
      exact isInputSample_flushedInput s hi
    case window =>
      have hcursor := hring.cursor
      refine hring'.sample ((exec_effect h).inv hs) (by omega) hk ?_
      rw [List.length_append]
      omega

end Sys2Proof.Machine
end

section
/-! PROOFS. ConvolutionKernel (46_convolution_kernel.md R290 to R302): what both kernels compute, the block PROCESS
writes, the silence of an empty impulse, the padded taps as a convolution, and the identity impulse. -/

namespace Sys2Proof.Machine

open Sys2Proof.Config

/-! ### The lanes of the SIMD accumulator (R293, R294) -/

/-- The registers of a whole number of groups start at the multiples of 4. -/
theorem simdTaps_eq {len : Nat} (hlen : len % 16 = 0) : simdTaps len = (List.range (len / 4)).map (4 * ·) := by
  obtain ⟨n, rfl⟩ := Nat.dvd_of_mod_eq_zero hlen
  have hgroups : 16 * n / simdGroup = n := Nat.mul_div_cancel_left n (by decide)
  have hregs : 16 * n / 4 = 4 * n := by omega
  rw [simdTaps, hgroups, hregs]
  clear hlen hgroups hregs
  induction n with
  | zero => rfl
  | succ n ih =>
    have hfour : List.range 4 = [0, 1, 2, 3] := rfl
    have hsize : simdGroup = 16 := rfl
    rw [List.range_succ (n := n), List.flatMap_append, ih, Nat.mul_succ, List.range_add, List.map_append]
    simp only [List.flatMap_singleton, hfour, hsize, List.map_cons, List.map_nil, Nat.mul_add,
      ← Nat.mul_assoc, Nat.reduceMul]

/-- A lane of a running vector sum is the running sum of that lane. -/
theorem lane_foldl_map32 {α : Type} (f : Word → Word → Word) (g : α → Vec) (xs : List α) (acc : Vec) {k : Nat}
    (hk : k < 4) : lane 32 (xs.foldl (fun acc x => map32 (fun _ => f) acc (g x)) acc) k =
      xs.foldl (fun sum x => f sum (lane 32 (g x) k)) (lane 32 acc k) := by
  induction xs generalizing acc with
  | nil => rfl
  | cons x xs ih => rw [List.foldl_cons, ih, map32, lane_gen32 _ hk, List.foldl_cons]

/-- Lane `k` of the products of the four taps from `t` is the product of tap `t + k`, for a window that starts inside
HIST. -/
theorem lane_simdProduct (m : Memory) (d : Dword) {p len : Nat} (i t : Nat) {k : Nat} (hk : k < 4)
    (hlen : len ≤ 4096) : lane 32 (simdProduct m true d p len i t) k = tapProduct m d p len i (t + k) := by
  have hh : histHalf = 4096 := rfl
  have hindex : windowIndex p len i t + k = p + 4096 + i + 1 + (t + k) - len := by
    rw [windowIndex]
    omega
  rw [simdProduct, map32, lane_gen32 _ hk, lane_gen32 _ hk, lane_gen32 _ hk, hindex, tapProduct]

theorem lane_simdAccumulate (m : Memory) (d : Dword) {p len : Nat} (i : Nat) {k : Nat} (hk : k < 4)
    (hgroup : len % 16 = 0) (hlen : len ≤ 4096) :
    lane 32 (simdAccumulate m true d p len i) k = laneSum m d p len i k := by
  rw [simdAccumulate, lane_foldl_map32 _ _ _ _ hk, lane_gen32 _ hk, simdTaps_eq hgroup, List.foldl_map, laneSum]
  simp only [lane_simdProduct m d i _ hk hlen]

/-! ### The kernels (R293 to R296) -/

theorem simdSample_eq (m : Memory) (d : Dword) {p len : Nat} (i : Nat) (hgroup : len % 16 = 0) (hlen : len ≤ 4096) :
    simdSample m true d p len i = kernelOutput m true d p len i := by
  have hlane {k : Nat} (hk : k < 4) := lane_simdAccumulate m d (p := p) i hk hgroup hlen
  rw [simdSample, hsum, hlane (by decide), hlane (by decide), hlane (by decide), hlane (by decide), kernelOutput,
    if_pos rfl]

theorem scalarSample_eq (m : Memory) (d : Dword) (p len i : Nat) :
    scalarSample m true d p len i = kernelOutput m false d p len i := rfl

/-- In the scoped numeric mode a sample of the selected kernel is the sum `kernelOutput` writes out. -/
theorem kernelSample_eq {s : State} (hftz : s.ftz = true) (hgroup : s.impPadLen.toNat % 16 = 0)
    (hlen : s.impPadLen.toNat ≤ 4096) (p i : Nat) : s.kernelSample p i =
      kernelOutput s.mem s.status.simdSel (s.draw (3 * i + 1)) p s.impPadLen.toNat i := by
  rw [State.kernelSample, hftz]
  cases s.status.simdSel with
  | true => exact simdSample_eq s.mem _ i hgroup hlen
  | false => exact scalarSample_eq s.mem _ p _ i

section Congr

variable {m m' : Memory} {d : Dword} {p len i : Nat}

theorem laneSum_congr {k : Nat} (hk : k < 4)
    (h : ∀ j, j < len → tapProduct m d p len i j = tapProduct m' d p len i j) :
    laneSum m d p len i k = laneSum m' d p len i k :=
  List.foldl_ext _ _ _ fun acc q hq => by
    have hq' : q < len / 4 := List.mem_range.mp hq
    rw [h (4 * q + k) (by omega)]

/-- The kernel reads memory through the products of its taps only. -/
theorem kernelOutput_congr (simd : Bool) (h : ∀ j, j < len → tapProduct m d p len i j = tapProduct m' d p len i j) :
    kernelOutput m simd d p len i = kernelOutput m' simd d p len i := by
  cases simd with
  | true =>
    simp only [kernelOutput, if_true]
    rw [laneSum_congr (k := 0) (by decide) h, laneSum_congr (k := 1) (by decide) h,
      laneSum_congr (k := 2) (by decide) h, laneSum_congr (k := 3) (by decide) h]
  | false => exact List.foldl_ext _ _ _ fun acc j hj => by rw [h j (List.mem_range.mp hj)]

end Congr

/-! ### The output block (47_perform_dispatch.md R325, R327) -/

/-- OUTB holds a block of at most 2048 samples at either width, and gives it back. -/
theorem isOutputSample_writeOutput (s : State) {ys : List Word} (hlen : ys.length ≤ 2048) {i : Nat}
    (hi : i < ys.length) : IsOutputSample s.status.width (s.writeOutput ys).mem i ys[i] := by
  have hb : Region.outb.base = 0xE000 := rfl
  have hend : mapEnd = 0x12000 := rfl
  unfold IsOutputSample State.writeOutput
  cases s.status.width with
  | native => exact Memory.read32_writeSamples s.mem ys i hi (by omega)
  | hostDouble =>
    refine ⟨s.draw (3 * i + 2), ?_⟩
    have hword := Memory.read64_writeSamples64 s.mem (a := Region.outb.base)
      (ys.mapIdx fun i y => widen (s.draw (3 * i + 2)) y) i (by rwa [List.length_mapIdx])
      (by rw [List.length_mapIdx]; omega)
    rwa [List.getElem_mapIdx] at hword

/-- The state PROCESS convolves in: the input block ingested, in the scoped numeric mode (R325, R326). -/
def State.ingested (s : State) : State := (s.setFtz true).ingest s.flushedInput

section Process

variable {s : State}

theorem processBlock_eq_of_active (active : s.status.inert = false) :
    s.processBlock = (s.ingested.writeOutput (s.ingested.kernelBlock s.inPos.toNat)).setFtz s.ftz := by
  simp only [State.processBlock, State.withFlush, State.runBlock, State.setFtz_status, active, Bool.false_eq_true,
    if_false]
  rfl

theorem processBlock_eq_of_inert (hinert : s.status.inert = true) :
    s.processBlock = (s.setFtz true).writeSilence.setFtz s.ftz := by
  simp only [State.processBlock, State.withFlush, State.runBlock, State.setFtz_status, hinert, if_true]

/-- After the ingest PROCESS leaves HIST and IMP alone. -/
theorem processBlock_of_ingested (active : s.status.inert = false) : EngineKept s.ingested s.processBlock := by
  rw [processBlock_eq_of_active active]
  exact (EngineKept.writeOutput _ _).trans (.setFtz _ _)

/-- A configured block has at most 2048 samples. -/
theorem Inv.cfgBlock_le (hs : Inv s) (hc : s.status.configured = true) : s.cfgBlock.toNat ≤ 2048 := by
  obtain ⟨-, -, -, -, hmax, -, hcap, -⟩ := hs.configured hc
  omega

/-- The padded impulse is a whole number of groups and fits in IMP (44_impulse_loader.md R256). -/
theorem Inv.impPadLen_groups (hs : Inv s) : s.impPadLen.toNat % 16 = 0 ∧ s.impPadLen.toNat ≤ 2048 := by
  have hlen := hs.length
  have hpad := hs.padded
  omega

/-- The products of the taps are those of the state PROCESS convolves in: the window ends inside HIST. -/
theorem tapProduct_processBlock (hs : Inv s) (hc : s.status.configured = true) (active : s.status.inert = false)
    (d : Dword) {i j : Nat} (hi : i < s.cfgBlock.toNat) (hj : j < s.impPadLen.toNat) :
    tapProduct s.processBlock.mem d s.inPos.toNat s.impPadLen.toNat i j =
      tapProduct s.ingested.mem d s.inPos.toNat s.impPadLen.toNat i j := by
  have hkept := processBlock_of_ingested active
  obtain ⟨-, -, -, hfit, -⟩ := hs.configured hc
  obtain ⟨-, hpad⟩ := hs.impPadLen_groups
  rw [tapProduct, hkept.imp (by omega), hkept.hist (by omega), tapProduct]

/-- The output range holds the samples of the selected kernel; writing them changes no product of a tap. -/
theorem isOutputSample_processBlock (hs : Inv s) (hc : s.status.configured = true) (active : s.status.inert = false)
    {i : Nat} (hi : i < s.cfgBlock.toNat) : IsOutputSample s.status.width s.processBlock.mem i
      (kernelOutput s.processBlock.mem s.status.simdSel (s.draw (3 * i + 1)) s.inPos.toNat s.impPadLen.toNat i) := by
  obtain ⟨hgroup, hpad⟩ := hs.impPadLen_groups
  have hblock : (s.ingested.kernelBlock s.inPos.toNat).length = s.cfgBlock.toNat := by
    rw [State.kernelBlock, List.length_map, List.length_range]
    rfl
  have hcap : s.cfgBlock.toNat ≤ 2048 := hs.cfgBlock_le hc
  have hsample : s.ingested.kernelSample s.inPos.toNat i =
      kernelOutput s.processBlock.mem s.status.simdSel (s.draw (3 * i + 1)) s.inPos.toNat s.impPadLen.toNat i := by
    rw [kernelOutput_congr _ fun j hj => tapProduct_processBlock hs hc active _ hi hj]
    exact kernelSample_eq (s := s.ingested) rfl hgroup (hpad.trans (by decide)) s.inPos.toNat i
  have hwritten := isOutputSample_writeOutput s.ingested (hblock ▸ hcap) (hblock ▸ hi)
  simp only [State.kernelBlock, List.getElem_map, List.getElem_range] at hwritten
  rw [← hsample, processBlock_eq_of_active active]
  exact hwritten

end Process

/-- Settles O40: PROCESS writes the kernel's samples, one draw for each. -/
theorem processComputesTheKernel : Obligations.ProcessComputesTheKernel := by
  intro s hs hp hc active
  exact ⟨_, exec_process hp hc, fun i hi => ⟨s.draw (3 * i + 1), isOutputSample_processBlock hs hc active hi⟩⟩

/-! ### Zeros (40_vec_arith.md R152) -/

namespace FloatFormat

variable {w : Nat} {F : FloatFormat w}

theorem value_pattern_zero (hF : F.Proper) : F.value 0 = .fin false 0 := value_zero hF false

/-- `+0.0` and a zero of either sign add up to `+0.0`. -/
theorem add_zero_zero (hF : F.Proper) (z : Bool) (d : Dword) (neg : Bool) : F.add z d 0 (F.zero neg) = 0 :=
  (specialCases hF).zeroSum z d false neg

/-- A running sum from `+0.0` of zeros of either sign stays `+0.0`. -/
theorem foldl_add_zeros (hF : F.Proper) (z : Bool) (d : Dword) {α : Type} (f : α → BitVec w) (xs : List α)
    (h : ∀ x ∈ xs, ∃ neg, f x = F.zero neg) : xs.foldl (fun sum x => F.add z d sum (f x)) 0 = 0 := by
  induction xs with
  | nil => rfl
  | cons x xs ih =>
    obtain ⟨neg, hx⟩ := h x List.mem_cons_self
    rw [List.foldl_cons, hx, add_zero_zero hF, ih fun y hy => h y (List.mem_cons_of_mem x hy)]

end FloatFormat

theorem add_zero_zero_f32 (d : Dword) : f32.add true d 0 0 = 0 := FloatFormat.add_zero_zero f32_proper true d false

/-! ### Silence (R298; 47_perform_dispatch.md R332) -/

theorem kernelOutput_no_taps (m : Memory) (simd : Bool) (d : Dword) (p i : Nat) : kernelOutput m simd d p 0 i = 0 := by
  have hlane (k : Nat) : laneSum m d p 0 i k = 0 := rfl
  cases simd with
  | true => simp only [kernelOutput, if_true, hlane, add_zero_zero_f32]
  | false => rfl

theorem widen_zero (d : Dword) : widen d 0 = 0 := by
  have hexact := FloatFormat.round_quanta f64_proper false Nat.one_pos (Nat.zero_le _)
  rw [FloatFormat.quanta_zero] at hexact
  rw [widen_of_fin (FloatFormat.value_pattern_zero f32_proper), Nat.zero_mul]
  exact hexact

/-- The zeroed block is a block of zero samples, at either width. -/
theorem writeSilence_eq (s : State) : s.writeSilence = s.writeOutput (List.replicate s.cfgBlock.toNat 0) := by
  have hwide : ((List.replicate s.cfgBlock.toNat 0).mapIdx fun i y => widen (s.draw (3 * i + 2)) y) =
      List.replicate s.cfgBlock.toNat 0 :=
    List.ext_getElem (by simp) fun i _ _ => by
      rw [List.getElem_mapIdx, List.getElem_replicate, List.getElem_replicate, widen_zero]
  rw [State.writeSilence, State.writeOutput, hwide]

theorem byte_of_read32_zero {m : Memory} {a j : Nat} (h : m.read32 a = 0) (hj : j < 4) : m.byte (a + j) = 0 := by
  rw [← extractLsb'_read32 m a hj, h]
  exact BitVec.extractLsb'_zero

theorem byte_of_read64_zero {m : Memory} {a j : Nat} (h : m.read64 a = 0) (hj : j < 8) : m.byte (a + j) = 0 := by
  rw [← extractLsb'_read64 m a hj, h]
  exact BitVec.extractLsb'_zero

/-- Output samples that are all `+0.0` are zero bytes throughout the output range. -/
theorem byte_of_zero_samples {s : State} {m : Memory}
    (h : ∀ i, i < s.cfgBlock.toNat → IsOutputSample s.status.width m i 0) {a : Nat} (ha : 0x0E000 ≤ a)
    (hlast : a < 0x0E000 + outputBytes s) : m.byte a = 0 := by
  have hb : Region.outb.base = 0xE000 := rfl
  unfold outputBytes at hlast
  unfold IsOutputSample at h
  cases hw : s.status.width with
  | native =>
    simp only [hw] at hlast h
    have hzero : m.read32 (Region.outb.base + 4 * ((a - 0xE000) / 4)) = 0 := h _ (by omega)
    rw [show a = Region.outb.base + 4 * ((a - 0xE000) / 4) + (a - 0xE000) % 4 by omega]
    exact byte_of_read32_zero hzero (by omega)
  | hostDouble =>
    simp only [hw, widen_zero, exists_const] at hlast h
    have hzero : m.read64 (Region.outb.base + 8 * ((a - 0xE000) / 8)) = 0 := h _ (by omega)
    rw [show a = Region.outb.base + 8 * ((a - 0xE000) / 8) + (a - 0xE000) % 8 by omega]
    exact byte_of_read64_zero hzero (by omega)

theorem isOutputSample_inert_process {s : State} (hs : Inv s) (hc : s.status.configured = true)
    (hinert : s.status.inert = true) {i : Nat} (hi : i < s.cfgBlock.toNat) :
    IsOutputSample s.status.width s.processBlock.mem i 0 := by
  have hsample := isOutputSample_writeOutput (s.setFtz true) (ys := List.replicate s.cfgBlock.toNat 0)
    (by rw [List.length_replicate]; exact hs.cfgBlock_le hc) (i := i) (by rwa [List.length_replicate])
  rw [List.getElem_replicate] at hsample
  rw [processBlock_eq_of_inert hinert, writeSilence_eq]
  exact hsample

/-- Settles O44: with `INERT` set PROCESS writes zeros, and with it clear a sum without products is `+0.0`. -/
theorem zeroLengthIsSilent : Obligations.ZeroLengthIsSilent := by
  intro s hs hp hc hpad
  refine ⟨_, exec_process hp hc, fun a => byte_of_zero_samples (s := s) fun i hi => ?_⟩
  cases hinert : s.status.inert with
  | true => exact isOutputSample_inert_process hs hc hinert hi
  | false =>
    have hsample := isOutputSample_processBlock hs hc hinert hi
    have hnone : s.impPadLen.toNat = 0 := congrArg BitVec.toNat hpad
    rwa [hnone, kernelOutput_no_taps] at hsample

/-! ### The convolution (R290, R291) -/

/-- With `pad` zero taps and then the samples in reverse, the sum over the taps is the convolution of the samples. -/
theorem sum_padded_reversed {pad len c : Nat} {tap win sample : Nat → Int} (hc : pad + len ≤ c)
    (hpad : ∀ j, j < pad → tap j = 0) (htap : ∀ j, j < len → tap (pad + j) = sample (len - 1 - j)) :
    ∑ j ∈ Finset.range (pad + len), tap j * win (c + 1 + j - (pad + len)) =
      ∑ m ∈ Finset.range len, sample m * win (c - m) := by
  have hzeros : ∑ j ∈ Finset.range pad, tap j * win (c + 1 + j - (pad + len)) = 0 :=
    Finset.sum_eq_zero fun j hj => by rw [hpad j (Finset.mem_range.mp hj), zero_mul]
  rw [Finset.sum_range_add, hzeros, zero_add, ← Finset.sum_range_reflect fun m => sample m * win (c - m)]
  refine Finset.sum_congr rfl fun j hj => ?_
  have hj' : j < len := Finset.mem_range.mp hj
  rw [htap j hj', show c + 1 + (pad + j) - (pad + len) = c - (len - 1 - j) by omega]

/-- Settles O43: LOADIMP leaves the samples reversed behind zeros. -/
theorem paddedTapsConvolveTheSource : Obligations.PaddedTapsConvolveTheSource := by
  intro val explicit id off req chsel s t src p i hval hp active hsrc hchannels hformat hexec
  obtain ⟨t', hexec', hlen, hpadded, hsamples, hpadding, -⟩ :=
    loadimpResult explicit id off req chsel s src hp active hsrc hchannels hformat
  obtain rfl : t = t' := by
    rw [hexec] at hexec'
    exact Host.Outcome.next.inj hexec'
  have hle : t.impLen.toNat ≤ 2044 := by omega
  obtain ⟨pad, hpad⟩ : ∃ pad, t.impPadLen.toNat = pad + t.impLen.toNat :=
    ⟨t.impPadLen.toNat - t.impLen.toNat, by omega⟩
  rw [hpad, Nat.add_sub_cancel] at hsamples hpadding
  rw [hpad]
  exact sum_padded_reversed (tap := fun j => val (t.mem.imp j)) (win := fun k => val (t.mem.hist k)) (by omega)
    (fun j hj => by rw [hpadding j (by omega) (.inl hj), hval]) (fun j hj => by rw [hsamples j hj])

/-! ### The identity impulse (R299, R302) -/

namespace FloatFormat

variable {w : Nat} {F : FloatFormat w} {x : BitVec w}

theorem flush_of_normal (hnormal : 2 ^ F.fracBits ≤ F.mag x) (z : Bool) : F.flush z x = x :=
  flush_of_not_subnormal (by rw [subnormal_iff]; omega) z

/-- What flush-to-zero makes of a pattern: the zero of its sign below the normal numbers, else the pattern. -/
theorem flush_true_eq (hF : F.Proper) (x : BitVec w) :
    F.flush true x = if F.mag x < 2 ^ F.fracBits then F.zero (F.sign x) else x := by
  split
  next hlt =>
    rcases Nat.eq_zero_or_pos (F.mag x) with hzero | hpos
    · have hx := pack_sign_mag hF x
      rw [hzero] at hx
      rw [zero, hx, ← hx]
      exact flush_of_not_subnormal (not_subnormal_zero hF _) true
    · exact flush_true_of_subnormal ((subnormal_iff x).mpr ⟨hpos, hlt⟩)
  next hge => exact flush_of_normal (Nat.le_of_not_lt hge) true

/-- A product with 1.0 is the other factor, flushed. -/
theorem mul_of_one (hF : F.Proper) {one : BitVec w} (hone : F.value one = .fin false (2 ^ F.shift)) (z : Bool)
    (d : Dword) (hx : F.mag x < F.infMag) : F.mul z d one x = F.flush z x := by
  rw [mul_fin_fin z d hone (value_of_mag_lt hx), Nat.mul_comm, round_quanta hF _ (Nat.two_pow_pos _) hx.le,
    Bool.false_xor, pack_sign_mag hF]

/-- `+0.0` and a normal number add up to the number. -/
theorem add_zero_normal (hF : F.Proper) (z : Bool) (d : Dword) (hnormal : 2 ^ F.fracBits ≤ F.mag x)
    (hx : F.mag x < F.infMag) : F.add z d 0 x = x := by
  have hpos : 0 < F.quanta (F.mag x) :=
    Nat.pos_of_ne_zero (mt quanta_eq_zero.mp (Nat.lt_of_lt_of_le (Nat.two_pow_pos _) hnormal).ne')
  have hsum : signedQuanta false 0 + signedQuanta (F.sign x) (F.quanta (F.mag x)) =
      signedQuanta (F.sign x) (F.quanta (F.mag x)) := zero_add _
  have hexact := round_quanta hF (F.sign x) Nat.one_pos hx.le
  rw [Nat.mul_one, pack_sign_mag hF] at hexact
  have hsign : decide (signedQuanta (F.sign x) (F.quanta (F.mag x)) < 0) = F.sign x := by
    cases F.sign x with
    | false => simp [signedQuanta]
    | true => simpa [signedQuanta] using hpos
  have hsize : (signedQuanta (F.sign x) (F.quanta (F.mag x))).natAbs = F.quanta (F.mag x) := by
    cases F.sign x with
    | false => simp [signedQuanta]
    | true => simp [signedQuanta]
  rw [add_fin_fin z d (value_pattern_zero hF) (value_of_mag_lt hx), hsum, if_neg (by omega), hsign, hsize, hexact]
  exact flush_of_normal hnormal z

/-- A running sum that is still `+0.0` takes a flushed term over: a normal number as it is, anything less as `+0.0`. -/
theorem add_zero_flush (hF : F.Proper) (d : Dword) (hx : F.mag x < F.infMag) :
    F.add true d 0 (F.flush true x) = if F.mag x < 2 ^ F.fracBits then 0 else x := by
  rw [flush_true_eq hF]
  split
  next => exact add_zero_zero hF true d _
  next hge => exact add_zero_normal hF true d (Nat.le_of_not_lt hge) hx

end FloatFormat

theorem value_one_f32 : f32.value 0x3F800000 = .fin false (2 ^ f32.shift) := by decide

/-- The output of an impulse of one group whose products but the last are zeros is the last product added to `+0.0`, on
the SIMD path three times more (R293 to R295). -/
theorem kernelOutput_last_tap {m : Memory} {d : Dword} {p i : Nat} {y : Word} (simd : Bool)
    (hzeros : ∀ j, j < 15 → ∃ neg, tapProduct m d p 16 i j = f32.zero neg)
    (hlast : f32.add true d 0 (tapProduct m d p 16 i 15) = y) (hkeep : f32.add true d 0 y = y) :
    kernelOutput m simd d p 16 i = y := by
  cases simd with
  | true =>
    have hsum (n k : Nat) (hn : ∀ q, q < n → 4 * q + k < 15) :
        (List.range n).foldl (fun sum q => f32.add true d sum (tapProduct m d p 16 i (4 * q + k))) 0 = 0 :=
      FloatFormat.foldl_add_zeros f32_proper true d (fun q => tapProduct m d p 16 i (4 * q + k)) _ fun q hq =>
        hzeros _ (hn q (List.mem_range.mp hq))
    have hlane (k : Nat) (hk : k < 3) : laneSum m d p 16 i k = 0 := hsum 4 k fun q hq => by omega
    have hlane3 : laneSum m d p 16 i 3 = y := by
      rw [laneSum, show 16 / 4 = 3 + 1 from rfl, List.range_succ, List.foldl_append, hsum 3 3 fun q hq => by omega]
      exact hlast
    simp only [kernelOutput, if_true, hlane 0 (by decide), hlane 1 (by decide), hlane 2 (by decide), hlane3,
      add_zero_zero_f32, hkeep]
  | false =>
    have hfirst : (List.range 15).foldl (fun sum j => f32.add true d sum (tapProduct m d p 16 i j)) 0 = 0 :=
      FloatFormat.foldl_add_zeros f32_proper true d (tapProduct m d p 16 i) _ fun j hj =>
        hzeros j (List.mem_range.mp hj)
    rw [kernelOutput, if_neg Bool.false_ne_true, List.range_succ, List.foldl_append, hfirst]
    exact hlast

/-- A tap of `+0.0` and a finite sample have a zero as their product. -/
theorem tapProduct_zero {m : Memory} {d : Dword} {p len i j : Nat} (htap : m.imp j = 0)
    (hfin : f32.mag (m.hist (p + 4096 + i + 1 + j - len)) < f32.infMag) :
    ∃ neg, tapProduct m d p len i j = f32.zero neg := by
  rw [tapProduct, htap]
  exact ⟨_, (FloatFormat.specialCases f32_proper).zeroMul true d false _ hfin⟩

/-- The identity impulse over a window of finite samples gives the newest one, flushed. -/
theorem kernelOutput_identity {m : Memory} {p i : Nat} (simd : Bool) (d : Dword) (hpad : ∀ j, j < 15 → m.imp j = 0)
    (hone : m.imp 15 = 0x3F800000) (hfin : ∀ j, j ≤ 15 → f32.mag (m.hist (p + 4081 + i + j)) < f32.infMag) :
    kernelOutput m simd d p 16 i =
      if f32.mag (m.hist (p + 4096 + i)) < 2 ^ 23 then 0 else m.hist (p + 4096 + i) := by
  have hindex (j : Nat) : p + 4096 + i + 1 + j - 16 = p + 4081 + i + j := by omega
  have hnewest : f32.mag (m.hist (p + 4096 + i)) < f32.infMag := by
    rw [show p + 4096 + i = p + 4081 + i + 15 by omega]
    exact hfin 15 le_rfl
  refine kernelOutput_last_tap simd (fun j hj => tapProduct_zero (hpad j hj) ?_) ?_ ?_
  · rw [hindex]
    exact hfin j (by omega)
  · rw [tapProduct, hone, show p + 4096 + i + 1 + 15 - 16 = p + 4096 + i by omega,
      FloatFormat.mul_of_one f32_proper value_one_f32 true d hnewest]
    exact FloatFormat.add_zero_flush f32_proper d hnewest
  · split
    next => exact add_zero_zero_f32 d
    next hge => exact FloatFormat.add_zero_normal f32_proper true d (Nat.le_of_not_lt hge) hnewest

/-! What the window reads (R290; 45_history_ring.md R271, R277). -/

section Window

variable {s : State} (hs : Inv s) (hc : s.status.configured = true) (active : s.status.inert = false)

include hs hc active

theorem imp_processBlock {j : Nat} (hj : j < 2048) : s.processBlock.mem.imp j = s.mem.imp j :=
  ((processBlock_of_ingested active).imp hj).trans (Memory.imp_mirrorWrite (hs.flushedInput_fits hc) j)

/-- The 15 samples before the block are those of the history. -/
theorem hist_processBlock_before {k : Nat} (hk : k < 15) :
    s.processBlock.mem.hist (s.inPos.toNat + 4081 + k) = s.mem.hist (s.inPos.toNat + 4081 + k) := by
  obtain ⟨-, -, -, hfit, hmax, -, hcap, -⟩ := hs.configured hc
  have hlen := length_flushedInput s
  exact ((processBlock_of_ingested active).hist (by omega)).trans
    (Memory.hist_mirrorWrite_outside s.mem (q := s.inPos.toNat) (by omega) (by omega))

/-- At native width the samples behind them are the words of INB. -/
theorem hist_processBlock_input (hwidth : s.status.width = .native) {k : Nat} (hk : k < s.cfgBlock.toNat) :
    s.processBlock.mem.hist (s.inPos.toNat + 4096 + k) = s.mem.inb32 k := by
  have hfit := hs.flushedInput_fits hc
  have hlen := length_flushedInput s
  have hk' : k < s.flushedInput.length := hlen ▸ hk
  have hinput := isInputSample_flushedInput s hk'
  rw [IsInputSample, hwidth] at hinput
  obtain ⟨-, hword⟩ := Memory.hist_mirrorWrite s.mem s.inPos.toNat s.flushedInput k hk' hfit
  rw [Nat.add_right_comm]
  exact ((processBlock_of_ingested active).hist (by omega)).trans (hword.trans hinput)

end Window

/-- Settles O45: the window of a sample ends with the sample itself, and before it stand earlier samples of the
block and of the history, all of them finite. -/
theorem identityImpulseReturnsTheInput : Obligations.IdentityImpulseReturnsTheInput := by
  intro s hs hp hc active hwidth hlen hone hhist hinput
  refine ⟨_, exec_process hp hc, fun i hi => ?_⟩
  have hpadded : s.impPadLen.toNat = 16 := by rw [hs.padded, hlen]; rfl
  have hpad (j : Nat) (hj : j < 15) : s.processBlock.mem.imp j = 0 :=
    (imp_processBlock hs hc active (by omega)).trans
      (hs.padding j (by omega) (.inl (by rw [hpadded, hlen]; exact hj)))
  have htap : s.processBlock.mem.imp 15 = 0x3F800000 := (imp_processBlock hs hc active (by decide)).trans hone
  have hfin (j : Nat) (hj : j ≤ 15) :
      f32.mag (s.processBlock.mem.hist (s.inPos.toNat + 4081 + i + j)) < f32.infMag := by
    by_cases hnew : 15 ≤ i + j
    · rw [show s.inPos.toNat + 4081 + i + j = s.inPos.toNat + 4096 + (i + j - 15) by omega,
        hist_processBlock_input hs hc active hwidth (by omega)]
      exact hinput _ (by omega)
    · rw [Nat.add_assoc, hist_processBlock_before hs hc active (by omega)]
      exact hhist _ (by omega)
  have hsample := isOutputSample_processBlock hs hc active hi
  rwa [hwidth, hpadded, kernelOutput_identity _ _ hpad htap hfin,
    hist_processBlock_input hs hc active hwidth hi] at hsample

end Sys2Proof.Machine
end

section
/-! PROOFS. The engine commands but LOADIMP (47_perform_dispatch.md R320 to R333): what CONFIG comes to, which bytes of
memory PROCESS leaves alone with `INERT` clear and with it set, that it does not read the ambient numeric mode, and the
results of the commands. -/

namespace Sys2Proof.Machine

open Sys2Proof.Config

/-! ### NOP, CLRDIAG and WRFPM (R320, R328, R329) -/

/-- Settles O34: each command on the port that accepts it, and refused on the other. -/
theorem housekeepingResult : Obligations.HousekeepingResult := by
  intro s
  refine ⟨rfl, fun mask hp => ?clrdiag, fun mask hp => onPort_refused (by simp [hp]) _, fun z hp => ?wrfpm,
    fun z hp => onPort_refused (by simp [hp]) _⟩
  case clrdiag =>
    rw [← hp]
    exact onPort_accepted hp _
  case wrfpm =>
    rw [← hp]
    exact onPort_accepted hp _

/-! ### CONFIG (R321, R322) -/

section Config

variable {s : State} {width : SampleWidth} {block maxBlock : BitVec 16}

theorem exec_config (hp : s.port = .c) (legal : configOk block.toNat maxBlock.toNat = true) :
    exec (.config width block maxBlock) s = .next ((s.configure width block maxBlock).complete 0) :=
  (onPort_accepted hp _).trans (if_pos legal)

theorem exec_config_illegal (hp : s.port = .c) (illegal : ¬ configOk block.toNat maxBlock.toNat = true) :
    exec (.config width block maxBlock) s = .next (s.refused .badConfig) :=
  (onPort_accepted hp _).trans (if_neg illegal)

/-- CONFIG writes HIST only, and with `INERT` set not even that. -/
theorem byte_configure (s : State) (width : SampleWidth) (block maxBlock : BitVec 16) {a : Nat}
    (h : 0x08000 ≤ a ∨ s.status.inert = true) : (s.configure width block maxBlock).mem.byte a = s.mem.byte a := by
  have he : Region.hist.last = 0x7FFF := rfl
  rw [State.configure_mem]
  split
  next => rfl
  next active => rw [Memory.byte_zeroRegion, if_neg (by have := h.resolve_right active; omega)]

end Config

/-- Settles O35: the four checks as arithmetic tell a CONFIG that takes effect from one that is refused. -/
theorem configResult : Obligations.ConfigResult := by
  intro width block maxBlock s b m ok
  have hok : configOk block.toNat maxBlock.toNat = true ↔ ok := configOk_iff b m
  refine ⟨fun hp => onPort_refused (by simp [hp]) _, fun hp hbad => exec_config_illegal hp (mt hok.mp hbad),
    fun hp hlegal => ⟨_, exec_config hp (hok.mpr hlegal), ?block, ?maxBlock, rfl, rfl, rfl, ?status, ?hist, ?frame, rfl⟩⟩
  case block => exact BitVec.toNat_setWidth_of_le (by decide)
  case maxBlock => exact BitVec.toNat_setWidth_of_le (by decide)
  case status =>
    rw [State.complete_status, State.configure_port, hp]
    rfl
  case hist => exact fun active i hi => hist_configure (.inl active) width block maxBlock hi
  case frame => exact fun a ha => byte_configure s width block maxBlock ha

/-! ### What PROCESS leaves unchanged (R325, R326, R331, R333) -/

theorem writeOutput_eq_setMem (s : State) (ys : List Word) : s.writeOutput ys = s.setMem (s.writeOutput ys).mem := by
  unfold State.writeOutput
  split
  · rfl
  · rfl

/-- A block of the configured size changes no byte outside the output range (R331). -/
theorem byte_writeOutput_outside {s : State} {ys : List Word} (hlen : ys.length = s.cfgBlock.toNat) {a : Nat}
    (ha : a < 0x0E000 ∨ 0x0E000 + outputBytes s ≤ a) : (s.writeOutput ys).mem.byte a = s.mem.byte a := by
  have hb : Region.outb.base = 0xE000 := rfl
  unfold outputBytes at ha
  unfold State.writeOutput
  cases hw : s.status.width with
  | native =>
    simp only [hw] at ha ⊢
    exact Memory.byte_writeSamples_outside s.mem ys (by omega)
  | hostDouble =>
    simp only [hw] at ha ⊢
    exact Memory.byte_writeSamples64_outside s.mem _ (by rw [List.length_mapIdx]; omega)

section Process

variable {s : State}

theorem processBlock_silent (hinert : s.status.inert = true) :
    s.processBlock = ((s.setFtz true).writeOutput (List.replicate s.cfgBlock.toNat 0)).setFtz s.ftz := by
  rw [processBlock_eq_of_inert hinert, writeSilence_eq, State.setFtz_cfgBlock]

/-- R332: with `INERT` set memory is written and nothing else. -/
theorem processBlock_inert_frame (hinert : s.status.inert = true) : s.processBlock = s.setMem s.processBlock.mem := by
  rw [processBlock_silent hinert, writeOutput_eq_setMem]
  rfl

theorem byte_processBlock_of_inert (hinert : s.status.inert = true) {a : Nat}
    (ha : a < 0x0E000 ∨ 0x0E000 + outputBytes s ≤ a) : s.processBlock.mem.byte a = s.mem.byte a := by
  rw [processBlock_silent hinert]
  exact byte_writeOutput_outside (s := s.setFtz true) List.length_replicate ha

/-- With `INERT` clear the mirrored write adds a block inside HIST (45_history_ring.md R271). -/
theorem byte_processBlock_of_active (hs : Inv s) (hc : s.status.configured = true) (active : s.status.inert = false)
    {a : Nat} (hhist : 0x08000 ≤ a) (ha : a < 0x0E000 ∨ 0x0E000 + outputBytes s ≤ a) :
    s.processBlock.mem.byte a = s.mem.byte a := by
  have hh : histHalf = 4096 := rfl
  have hfit := hs.flushedInput_fits hc
  have hblock : (s.ingested.kernelBlock s.inPos.toNat).length = s.ingested.cfgBlock.toNat := by
    simp [State.kernelBlock]
  calc s.processBlock.mem.byte a
      = (s.ingested.writeOutput (s.ingested.kernelBlock s.inPos.toNat)).mem.byte a := by
        rw [processBlock_eq_of_active active, State.setFtz_mem]
    _ = s.ingested.mem.byte a := byte_writeOutput_outside hblock ha
    _ = s.mem.byte a := Memory.byte_mirrorWrite_outside s.mem s.flushedInput s.inPos.toNat (by omega) (by omega)

theorem byte_processBlock_outside (hs : Inv s) (hc : s.status.configured = true) {a : Nat} (hhist : 0x08000 ≤ a)
    (ha : a < 0x0E000 ∨ 0x0E000 + outputBytes s ≤ a) : s.processBlock.mem.byte a = s.mem.byte a := by
  cases hinert : s.status.inert with
  | true => exact byte_processBlock_of_inert hinert ha
  | false => exact byte_processBlock_of_active hs hc hinert hhist ha

/-- The block runs in the scoped numeric mode, and the ambient one is restored (R326). -/
theorem processBlock_setFtz (s : State) (z : Bool) : (s.setFtz z).processBlock = s.processBlock.setFtz z := rfl

theorem exec_process_unconfigured (hp : s.port = .p) (hc : s.status.configured = false) :
    exec .process s = .next (s.refused .notConfigured) :=
  (onPort_accepted hp _).trans (if_neg (by simp [hc]))

/-- The state a PROCESS completes in, its cursor, window and memory left open (R325, R333). -/
theorem complete_processBlock (hp : s.port = .p) : s.processBlock.complete 0 =
    { s with
      mem := s.processBlock.mem
      inPos := s.processBlock.inPos
      winStart := s.processBlock.winStart
      winLen := s.processBlock.winLen
      status := s.status.record .p .ok
      output := .response .ok 0 } := by
  rw [← hp, processBlock_frame]
  rfl

end Process

/-- Settles O38: the two refusals, the frame in state and memory, and the scoped numeric mode. -/
theorem processCompletes : Obligations.ProcessCompletes := by
  intro s
  refine ⟨fun hp => onPort_refused (by simp [hp]) _, exec_process_unconfigured, fun hp hc hs =>
    ⟨_, exec_process hp hc, complete_processBlock hp, fun a => byte_processBlock_outside hs hc, fun z => ?mode⟩⟩
  case mode =>
    have hrun : exec .process (s.setFtz z) = .next ((s.setFtz z).processBlock.complete 0) := exec_process hp hc
    rw [processBlock_setFtz] at hrun
    exact hrun

/-- Settles O41: the samples of the block are zero, and PROCESS writes nothing but the block. -/
theorem inertProcessIsSilent : Obligations.InertProcessIsSilent := by
  intro s hs hp hc hinert
  refine ⟨_, exec_process hp hc, fun a => ?silence, fun a => byte_processBlock_of_inert hinert, ?frame⟩
  case silence =>
    exact byte_of_zero_samples (s := s) fun i hi => isOutputSample_inert_process hs hc hinert hi
  case frame =>
    rw [← hp, processBlock_inert_frame hinert]
    rfl

end Sys2Proof.Machine
end

section
/-! PROOFS. How commands end (60_exceptions.md R350 to R359): a command completes or is refused, said once for all
commands; the port and the opcode of each; the errors it can give; and the order in which a packet is refused. -/

namespace Sys2Proof.Machine

/-! ### A command completes or is refused (R350 to R352) -/

/-- The two ends of a command in a state `s`: completed after an effect that left the port and the error records alone,
or refused. -/
inductive Ended (s : State) : State → Prop
  | completed {u : State} (x : Word) (port : u.port = s.port) (record : u.status.lastErr = s.status.lastErr) :
      Ended s (u.complete x)
  | refused (e : ErrCode) : Ended s (s.refused e)

section Ends

variable {s t : State} {i : Instr}

@[simp] theorem processBlock_port (s : State) : s.processBlock.port = s.port := by
  rw [processBlock_frame]

theorem lastErr_configure (s : State) (width : SampleWidth) (block maxBlock : BitVec 16) :
    (s.configure width block maxBlock).status.lastErr = s.status.lastErr := by
  funext port
  cases port with
  | c => rfl
  | p => rfl

theorem CommandEffect.ended (h : CommandEffect s i t) : Ended s t := by
  cases h with
  | refused i e => exact .refused e
  | config width block maxBlock => exact .completed 0 rfl (lastErr_configure s width block maxBlock)
  | process => exact .completed 0 (processBlock_port s) (by rw [processBlock_status])
  | _ => exact .completed _ rfl rfl

theorem complete_lastErr (s : State) (x : Word) : (s.complete x).status.lastErr s.port = .ok :=
  Status.record_lastErr s.status s.port .ok

/-- The code of a completed command's response. -/
theorem err_of_complete {x y : Word} {e : ErrCode} (h : (s.complete x).output = .response e y) : e = .ok := by
  cases h
  rfl

end Ends

/-- Settles O14: for either end of a command the record of its port is written with the code of the response. -/
theorem errorRecordHoldsTheResponse : Obligations.ErrorRecordHoldsTheResponse := by
  intro i s t h
  cases (exec_effect h).ended with
  | completed x port record =>
    refine ⟨.ok, x, rfl, ?_, fun q hq => ?_, fun hne => absurd rfl hne⟩
    · rw [← port, complete_lastErr]
    · rw [State.complete_status, port, Status.record_lastErr_other _ hq, record]
  | refused e =>
    exact ⟨e, 0, rfl, Status.record_lastErr _ _ _, fun q hq => Status.record_lastErr_other _ hq e, fun _ => rfl⟩

/-- Settles O15: a code other than `OK` is that of a refusal, and a refusal leaves the state written out. -/
theorem refusalChangesOnlyTheRecord : Obligations.RefusalChangesOnlyTheRecord := by
  intro i s t e x h hout hne
  cases (exec_effect h).ended with
  | completed y port record => exact absurd (err_of_complete hout) hne
  | refused e' =>
    cases hout
    exact ⟨rfl, rfl⟩

/-! ### Opcodes and ports (R370; 30_encoding.md R125) -/

theorem opcodeOf_clrdiag (mask3 : BitVec 3) : opcodeOf (.clrdiag mask3) = 0x04 :=
  opcodeOf_of_word0 rfl ⟨by decide, by decide, by decide, by decide, by decide, by omega⟩

theorem opcodeOf_wrfpm (z : Bool) : opcodeOf (.wrfpm z) = 0x05 :=
  opcodeOf_of_word0 rfl ⟨by decide, by decide, by decide, by decide, by decide, by split <;> decide⟩

/-- The opcodes of the VectorOps commands, in two ranges of the map. -/
def VectorOpcode (op : Nat) : Prop := 0x10 ≤ op ∧ op ≤ 0x24 ∨ 0x28 ≤ op ∧ op ≤ 0x2F

theorem vectorOpcode_of_vector {i : Instr} (h : ¬ EngineCommand i) : VectorOpcode (opcodeOf i) := by
  unfold VectorOpcode
  cases i with
  | nop | config | loadimp | process | clrdiag | wrfpm => exact absurd (by constructor) h
  | _ =>
    rw [opcodeOf_of_word0 rfl ⟨by decide, ElemType.code_lt _, by omega, by omega, by omega, by omega⟩]
    decide

theorem accepts_p_of_vector {i : Instr} (h : ¬ EngineCommand i) : accepts .p (opcodeOf i) :=
  .inr (.inr (.inr (vectorOpcode_of_vector h)))

section Ports

variable {s : State} {i : Instr} {k : Result}

/-- A port that does not accept the opcode is not the one the command needs. -/
theorem onPort_not_accepted {need : Port} {op : Nat} (haccept : accepts need op) (h : ¬ accepts s.port op) :
    onPort need s k = .next (s.refused .port) :=
  onPort_refused (fun hp => h (hp ▸ haccept)) k

/-- R354: the port is the first thing a command checks. -/
theorem exec_wrong_port (i : Instr) (h : ¬ accepts s.port (opcodeOf i)) : exec i s = .next (s.refused .port) := by
  by_cases hi : EngineCommand i
  · cases hi with
    | nop =>
      have hnop (port : Port) : accepts port (opcodeOf .nop) := by
        cases port with
        | c => exact .inl (by decide)
        | p => exact .inl (by decide)
      exact absurd (hnop s.port) h
    | config width block maxBlock => exact onPort_not_accepted (.inr (.inl (opcodeOf_config ..))) h
    | loadimp explicit id off req chsel => exact onPort_not_accepted (.inr (.inr (.inl (opcodeOf_loadimp ..)))) h
    | process => exact onPort_not_accepted (need := .p) (.inr (.inl (by decide))) h
    | clrdiag mask3 => exact onPort_not_accepted (.inr (.inr (.inr (opcodeOf_clrdiag mask3)))) h
    | wrfpm z => exact onPort_not_accepted (need := .p) (.inr (.inr (.inl (opcodeOf_wrfpm z)))) h
  · have haccept := accepts_p_of_vector hi
    cases commandForm i with
    | register vd result runs => exact (runs s).trans (onPort_not_accepted haccept h)
    | load vd a runs => exact (runs s).trans (onPort_not_accepted haccept h)
    | store vs a runs => exact (runs s).trans (onPort_not_accepted haccept h)
    | shuffle vd va vb imm8 runs => exact (runs s).trans (onPort_not_accepted haccept h)
    | _ => exact absurd (by constructor) hi

end Ports

/-! ### What a well-formed VectorOps command comes to (40_vec_arith.md R150; R356, R358) -/

/-- How a VectorOps command of an opcode ends once the port and the capability let it run: it completes, or it is a
load or a store and its address is refused. -/
inductive VectorEnd (s : State) (op : Nat) : Result → Prop
  | done (u : State) : VectorEnd s op (done u)
  | addr (access : op = 0x22 ∨ op = 0x23) : VectorEnd s op (refuse .addr s)

section Vector

variable {s : State} {i : Instr}

theorem vectorEnd_access {op : Nat} {inside : Bool} {u : State} (access : op = 0x22 ∨ op = 0x23) :
    VectorEnd s op (if inside then done u else refuse .addr s) := by
  split
  · exact .done u
  · exact .addr access

/-- A selector that is well formed leaves the port and the capability to check. -/
theorem shuffleCommand64_wellFormed {imm8 : BitVec 8} (h : shuffleImm64Ok imm8 = true) (vd va vb : VReg) (s : State) :
    shuffleCommand64 vd va vb imm8 s =
      vectorCommand s (done (s.setReg vd (shuffle64 imm8 (s.reg va) (s.reg vb)))) := by
  rw [shuffleCommand64, unlessMalformed, if_pos h, vectorCommand]

theorem exec_wellFormed_vector (hi : ¬ EngineCommand i) (hwf : i.wellFormed = true) (s : State) :
    ∃ k, exec i s = vectorCommand s k ∧ VectorEnd s (opcodeOf i) k := by
  cases i with
  | nop | config | loadimp | process | clrdiag | wrfpm => exact absurd (by constructor) hi
  | vlduF32 | vlduF64 | vlduI32 | vlduI64 =>
    exact ⟨_, rfl, vectorEnd_access (.inl
      (opcodeOf_of_word0 rfl ⟨by decide, ElemType.code_lt _, by omega, by omega, by omega, by omega⟩))⟩
  | vstuF32 | vstuF64 | vstuI32 | vstuI64 =>
    exact ⟨_, rfl, vectorEnd_access (.inr
      (opcodeOf_of_word0 rfl ⟨by decide, ElemType.code_lt _, by omega, by omega, by omega, by omega⟩))⟩
  | vshufF64 | vshufI64 => exact ⟨_, shuffleCommand64_wellFormed hwf _ _ _ s, .done _⟩
  | _ => exact ⟨_, rfl, .done _⟩

end Vector

/-- Settles O17: the port comes first, and behind it the capability, before anything a VectorOps command runs. -/
theorem wrongPortAndMissingUnitAreRefused : Obligations.WrongPortAndMissingUnitAreRefused := by
  intro i s
  refine ⟨exec_wrong_port i, fun hwf hop hp hsimd => ?_⟩
  have hi : ¬ EngineCommand i := fun hi => absurd (opcodeOf_engine hi) (Nat.not_lt.mpr hop)
  obtain ⟨k, hrun, -⟩ := exec_wellFormed_vector hi hwf s
  exact hrun.trans (vectorCommand_no_simd hp hsimd k)

/-! ### The errors each command can give (R359) -/

section Errors

variable {s t : State} {i : Instr} {e : ErrCode} {x : Word}

/-- The codes a command of an opcode may answer (R359). -/
inductive PossibleError (op : Nat) : ErrCode → Prop
  | ok : PossibleError op .ok
  | port (notNop : op ≠ 0x00) : PossibleError op .port
  | badConfig (config : op = 0x01) : PossibleError op .badConfig
  | notConfigured (process : op = 0x03) : PossibleError op .notConfigured
  | noSimd (vector : 0x10 ≤ op) : PossibleError op .noSimd
  | addr (access : op = 0x22 ∨ op = 0x23) : PossibleError op .addr

theorem possibleError_complete {op : Nat} {y : Word} (h : (s.complete y).output = .response e x) :
    PossibleError op e :=
  err_of_complete h ▸ .ok

theorem possibleError_refused {op : Nat} {e' : ErrCode} (possible : PossibleError op e')
    (h : (s.refused e').output = .response e x) : PossibleError op e := by
  cases h
  exact possible

theorem engine_error (hi : EngineCommand i) (h : exec i s = .next t) (hout : t.output = .response e x) :
    PossibleError (opcodeOf i) e := by
  cases hi with
  | nop =>
    cases h
    exact possibleError_complete hout
  | config width block maxBlock =>
    have hop := opcodeOf_config width block maxBlock
    rcases execConfig_next h with ⟨-, -, rfl⟩ | ⟨-, -, rfl⟩ | ⟨-, rfl⟩
    · exact possibleError_complete hout
    · exact possibleError_refused (.badConfig hop) hout
    · exact possibleError_refused (.port (by simp [hop])) hout
  | loadimp explicit id off req chsel =>
    have hop := opcodeOf_loadimp explicit id off req chsel
    rcases execLoadimp_next h with ⟨-, rfl⟩ | ⟨-, rfl⟩
    · rcases loadImpulse_cases explicit id off req chsel s with ⟨-, hload⟩ | ⟨-, -, hload⟩ | ⟨src, -, -, hload⟩
      · exact possibleError_complete (hload ▸ hout)
      · exact possibleError_complete (hload ▸ hout)
      · exact possibleError_complete (hload ▸ hout)
    · exact possibleError_refused (.port (by simp [hop])) hout
  | process =>
    rcases execProcess_next h with ⟨-, -, rfl⟩ | ⟨-, -, rfl⟩ | ⟨-, rfl⟩
    · exact possibleError_complete hout
    · exact possibleError_refused (.notConfigured (by decide)) hout
    · exact possibleError_refused (.port (by decide)) hout
  | clrdiag mask3 =>
    rcases onPort_next h with ⟨-, hdone⟩ | ⟨-, rfl⟩
    · cases hdone
      exact possibleError_complete hout
    · exact possibleError_refused (.port (by simp [opcodeOf_clrdiag])) hout
  | wrfpm z =>
    rcases onPort_next h with ⟨-, hdone⟩ | ⟨-, rfl⟩
    · cases hdone
      exact possibleError_complete hout
    · exact possibleError_refused (.port (by simp [opcodeOf_wrfpm])) hout

theorem vector_error (hi : ¬ EngineCommand i) (hwf : i.wellFormed = true) (h : exec i s = .next t)
    (hout : t.output = .response e x) : PossibleError (opcodeOf i) e := by
  have hop := opcodeOf_vector hi
  obtain ⟨k, hrun, hend⟩ := exec_wellFormed_vector hi hwf s
  rcases vectorCommand_next (hrun ▸ h) with ⟨-, -, hk⟩ | ⟨-, rfl⟩ | ⟨-, -, rfl⟩
  · cases hend with
    | done u =>
      cases hk
      exact possibleError_complete hout
    | addr access =>
      cases hk
      exact possibleError_refused (.addr access) hout
  · exact possibleError_refused (.port (by omega)) hout
  · exact possibleError_refused (.noSimd hop) hout

/-- An engine command is refused by its own checks, a VectorOps command by the checks they share. -/
theorem exec_error (hwf : i.wellFormed = true) (h : exec i s = .next t) (hout : t.output = .response e x) :
    PossibleError (opcodeOf i) e := by
  by_cases hi : EngineCommand i
  · exact engine_error hi h hout
  · exact vector_error hi hwf h hout

end Errors

/-- Settles O16: the statement writes out the codes of `PossibleError`. -/
theorem possibleErrors : Obligations.PossibleErrors := by
  intro i s t e x hwf h hout
  cases exec_error hwf h hout with
  | ok => exact .inl rfl
  | port notNop => exact .inr (.inl ⟨rfl, notNop⟩)
  | badConfig config => exact .inr (.inr (.inl ⟨rfl, config⟩))
  | notConfigured process => exact .inr (.inr (.inr (.inl ⟨rfl, process⟩)))
  | noSimd vector => exact .inr (.inr (.inr (.inr (.inl ⟨rfl, vector⟩))))
  | addr access => exact .inr (.inr (.inr (.inr (.inr ⟨rfl, access⟩))))

/-! ### Packets that are no command (R358, steps 1 to 3; 30_encoding.md R126) -/

/-- If decoding ends in an error, the packet is malformed. -/
def OnlyMalformed (d : Decoded) : Prop := ∀ e, d = .error e → e = .malformed

section Decoding

variable {op : Nat} {w : Word} {ops : Packet}

theorem onlyMalformed_error : OnlyMalformed (.error .malformed) := fun _ h => (Except.error.inj h).symm

theorem onlyMalformed_whenZero (reserved : Bool) (i : Instr) : OnlyMalformed (whenZero reserved i) := by
  cases reserved with
  | true => exact fun _ h => nomatch h
  | false => exact onlyMalformed_error

/-- Each format of the map answers for a packet whose reserved fields are zero, or finds it malformed. -/
theorem decodeOp_mapped (h : mapped op) (w : Word) (ops : Packet) : OnlyMalformed (decodeOp op w ops) := by
  unfold decodeOp
  split
  case h_36 =>
    unfold mapped at h
    simp only [imp_false] at *
    omega
  case h_7 =>
    simp only [formatB]
    split
    case h_5 => exact onlyMalformed_error
    all_goals exact onlyMalformed_whenZero _ _
  all_goals
    simp only [formatN, formatC, formatL, formatD, formatF, formatR, formatR4, formatI, formatU, formatM]
    split
    · exact onlyMalformed_whenZero _ _
    · exact onlyMalformed_error

theorem decodeOp_reserved (h : ¬ mapped op) (w : Word) (ops : Packet) :
    decodeOp op w ops = .error .reservedOpcode := by
  unfold decodeOp
  split
  case h_36 => rfl
  all_goals exact absurd (by unfold mapped; decide) h

theorem opAcceptedOn_iff {port : Port} (h : mapped op) : opAcceptedOn port op = true ↔ accepts port op := by
  unfold mapped at h
  unfold opAcceptedOn
  cases port with
  | c =>
    split_ifs with hnop hengine
    · exact iff_of_true rfl (.inl hnop)
    · exact iff_of_true rfl (.inr hengine)
    · exact iff_of_false (by decide) (by simp only [accepts]; omega)
  | p =>
    split_ifs with hnop hengine
    · exact iff_of_true rfl (.inl hnop)
    · exact iff_of_false (by decide) (by simp only [accepts]; omega)
    · exact iff_of_true rfl (by simp only [accepts]; omega)

end Decoding

section Packets

variable {w : Word} {ops : Packet} {s : State}

theorem execPacket_error {pkt : Packet} {e : DecodeError} (h : decode pkt = .error e) (s : State) :
    execPacket pkt s = rejectPacket pkt e s := by
  simp [execPacket, h]

theorem execPacket_reserved (h : ¬ mapped (field w 31 24)) : execPacket (w :: ops) s = .next (s.refused .illegal) :=
  execPacket_error (pkt := w :: ops) (decodeOp_reserved h w ops) s

/-- A packet of the map that is no command: the port decides. -/
theorem execPacket_malformed (h : mapped (field w 31 24)) {e : DecodeError} (he : decode (w :: ops) = .error e) :
    execPacket (w :: ops) s =
      if opAcceptedOn s.port (field w 31 24) then refuse .illegal s else refuse .port s := by
  rw [execPacket_error he, decodeOp_mapped h w ops e he]
  rfl

/-- The opcode of a decoded command is the one in its packet. -/
theorem opcodeOf_decode {i : Instr} (h : decode (w :: ops) = .ok i) : opcodeOf i = field w 31 24 := by
  obtain ⟨hencode, -⟩ := encodeOfDecode _ i h
  rw [opcodeOf, hencode, List.headD_cons]

theorem execPacket_wrong_port (h : mapped (field w 31 24)) (hport : ¬ accepts s.port (field w 31 24)) :
    execPacket (w :: ops) s = .next (s.refused .port) := by
  cases hd : decode (w :: ops) with
  | ok i => rw [execPacket_ok hd, exec_wrong_port i (by rwa [opcodeOf_decode hd])]
  | error e => rw [execPacket_malformed h hd, if_neg (mt (opAcceptedOn_iff h).mp hport), refuse_eq]

theorem execPacket_not_command (h : mapped (field w 31 24)) (hport : accepts s.port (field w 31 24))
    (hd : ∀ i, decode (w :: ops) ≠ .ok i) : execPacket (w :: ops) s = .next (s.refused .illegal) := by
  cases he : decode (w :: ops) with
  | ok i => exact absurd he (hd i)
  | error e => rw [execPacket_malformed h he, if_pos ((opAcceptedOn_iff h).mpr hport), refuse_eq]

end Packets

/-- Settles O4: the three clauses are the three ways a packet is refused before a command runs. -/
theorem packetErrorOrder : Obligations.PacketErrorOrder :=
  fun _ _ _ => ⟨execPacket_reserved, execPacket_wrong_port, execPacket_not_command⟩

end Sys2Proof.Machine
end

section
/-! PROOFS. The status registers as the host reads them (10_state.md R40 to R52): the bits of the words put together from
fields, and the answer to a register read. -/

namespace Sys2Proof.Machine

open Sys2Proof.Config

/-! ### The words put together from fields (R42 to R44, R52) -/

theorem capWord_bits (params : Params) :
    (capWord params).getLsbD 0 = params.simdPresent ∧
      (capWord params).getLsbD 1 = decide (params.family = .b) ∧ (capWord params).extractLsb' 2 30 = 0 := by
  have hfamily : familyBit params.family = decide (params.family = .b) := by
    cases params.family with
    | a => rfl
    | b => rfl
  refine ⟨?_, ?_, BitVec.extractLsb'_append_eq_left⟩
  all_goals
    simp only [capWord, BitVec.getLsbD_append]
    simp [hfamily]

theorem diag_word_bits (d : Diag) :
    d.word.getLsbD 0 = d.allocFail ∧ d.word.getLsbD 1 = d.srcShort ∧ d.word.getLsbD 2 = d.srcInvalid ∧
      d.word.extractLsb' 3 29 = 0 := by
  refine ⟨?_, ?_, ?_, BitVec.extractLsb'_append_eq_left⟩
  all_goals
    simp only [Diag.word, BitVec.getLsbD_append]
    simp

theorem status_word_flags (st : Status) :
    st.word.getLsbD 0 = st.configured ∧ st.word.getLsbD 1 = st.inert ∧ st.word.getLsbD 2 = st.simdSel ∧
      st.word.getLsbD 3 = decide (st.width = .hostDouble) := by
  have hwidth : widthBit st.width = BitVec.ofBool (decide (st.width = .hostDouble)) := by
    cases st.width with
    | native => rfl
    | hostDouble => rfl
  simp only [Status.word, BitVec.getLsbD_append]
  simp [hwidth]

/-- The fields above the flags, from the lowest up: each stands behind the fields it is appended to. -/
theorem status_word_fields (st : Status) :
    st.word.extractLsb' 4 4 = 0 ∧ st.word.extractLsb' 8 8 = st.lastErrP.code ∧
      st.word.extractLsb' 16 8 = st.lastErrC.code ∧ st.word.extractLsb' 24 8 = 0 := by
  unfold Status.word
  refine ⟨?_, ?_, ?_, ?_⟩
  · rw [BitVec.extractLsb'_append_eq_of_le (by decide)]
    exact BitVec.extractLsb'_append_eq_right
  · rw [BitVec.extractLsb'_append_eq_of_le (by decide), BitVec.extractLsb'_append_eq_of_le (by decide)]
    exact BitVec.extractLsb'_append_eq_right
  · rw [BitVec.extractLsb'_append_eq_of_le (by decide), BitVec.extractLsb'_append_eq_of_le (by decide),
      BitVec.extractLsb'_append_eq_of_le (by decide)]
    exact BitVec.extractLsb'_append_eq_right
  · rw [BitVec.extractLsb'_append_eq_of_le (by decide), BitVec.extractLsb'_append_eq_of_le (by decide),
      BitVec.extractLsb'_append_eq_of_le (by decide)]
    exact BitVec.extractLsb'_append_eq_left

theorem fpmode_word_bits (z : Bool) :
    ((0 : BitVec 31) ++ BitVec.ofBool z).getLsbD 0 = z ∧ ((0 : BitVec 31) ++ BitVec.ofBool z).extractLsb' 1 31 = 0 := by
  refine ⟨?_, BitVec.extractLsb'_append_eq_left⟩
  simp only [BitVec.getLsbD_append]
  simp

/-! ### The answer to a register read (R40) -/

theorem csrValue_unassigned (s : State) {n : Nat} (h : 12 ≤ n) : csrValue s n = 0 := by
  unfold csrValue
  split
  case h_13 => rfl
  all_goals exact absurd h (by decide)

theorem step_csrRead {s : State} {n : Word} {rest : List Input} (h : s.schedule = .csrRead n :: rest) :
    step s = .next { s with schedule := rest, output := .data (csrValue s n.toNat) } := by
  have hvalue : csrValue { s with schedule := rest } n.toNat = csrValue s n.toNat := rfl
  rw [step_takes h, takeInput, csrRead, hvalue]
  rfl

/-- Settles O9: the error codes are numbered in the model, and each clause is the word of its register. -/
theorem statusRegistersReadAsTheSpecSays : Obligations.StatusRegistersReadAsTheSpecSays := by
  refine ⟨⟨rfl, rfl, rfl, rfl, rfl, rfl, rfl⟩, fun s n rest h => ⟨_, step_csrRead h, ?_⟩⟩
  refine ⟨?id, ?cap, ?status, ?diag, ?cfgBlock, ?cfgMaxBlock, ?impLen, ?impPadLen, ?inPos, ?winStart, ?winLen,
    ?fpmode, csrValue_unassigned s⟩
  case cap =>
    rintro rfl
    exact capWord_bits s.params
  case status =>
    rintro rfl
    obtain ⟨hconfigured, hinert, hsimd, hwidth⟩ := status_word_flags s.status
    exact ⟨hconfigured, hinert, hsimd, hwidth, status_word_fields s.status⟩
  case diag =>
    rintro rfl
    exact diag_word_bits s.diag
  case fpmode =>
    rintro rfl
    exact fpmode_word_bits s.ftz
  all_goals
    rintro rfl
    rfl

end Sys2Proof.Machine
end
